-- ==== Sys2Proof/Word.lean ====
section
/-!
DEFINITION. Sys2Proof/Word.lean: the data types of 00_scope.md R5 (Byte, Word, DWord, QWord) and the nibble of
30_encoding.md R91, as bit vectors.
-/
namespace Sys2Proof

/-- One nibble of an encoding pattern (30_encoding.md R91). -/
abbrev Nibble := BitVec 4
/-- The source's Byte, 8 bits (00_scope.md R5). -/
abbrev Byte := BitVec 8
/-- The source's Word, 16 bits (00_scope.md R5): also one instruction word. -/
abbrev Word := BitVec 16
/-- The source's DWord, 32 bits (00_scope.md R5). -/
abbrev DWord := BitVec 32
/-- The source's QWord, 64 bits (00_scope.md R5): a general register, an address. -/
abbrev QWord := BitVec 64

end Sys2Proof
end

