-- ==== Sys2Proof/Syntax.lean ====
section
/-!
DEFINITION. Sys2Proof/Syntax.lean: the instructions, one constructor for each of the 361 rows of spec/opcode_table.json.
The arguments are the fields of the encoding as the decoder joins them: a 4-bit register number where the form reaches
16 registers (R0..R15, or R16..R31 for the forms whose name ends in Hi), a 5-bit one where it reaches all 32, the free
`q` bit of an `e` or `qnii` nibble, and the raw immediate, displacement or label, whose extension is the meaning's
(30_encoding.md R93 to R102). Sources come first and the destination last, as in the listings (30_encoding.md R119).
-/
namespace Sys2Proof

/-- The instructions of the opcode table: each docstring gives the pattern, the listing and the rule. -/
inductive Instr where
  /-- `3nmC` ADD Rm, Rn (R140). -/
  | addRmRn (m n : BitVec 4)
  /-- `CEeC-3nmF` ADD Rm, Rn (R140). -/
  | addRmRnCe (q : Bool) (m n : BitVec 5)
  /-- `7nii` ADD #imm8s, Rn (R141). -/
  | addImm8sRn (imm : BitVec 8) (n : BitVec 4)
  /-- `8Eii-7nii` ADD #imm16s, Rn (R0..R15) (R141). -/
  | addImm16sRn (imm : BitVec 16) (n : BitVec 4)
  /-- `CEii-7nii` ADD #imm16s, Rn (R16..R31) (R141). -/
  | addImm16sRnHi (imm : BitVec 16) (n : BitVec 4)
  /-- `8Ejj-3nmC` ADD Rm, #imm8, Rn (R142). -/
  | addRmImm8Rn (m : BitVec 4) (imm : BitVec 8) (n : BitVec 4)
  /-- `CEfj-3nmC` ADD Rm, #imm6, Rn (R142). -/
  | addRmImm6Rn (m : BitVec 5) (imm : BitVec 6) (n : BitVec 5)
  /-- `CEeo-Anm0` ADD Rm, Ro, Rn (R142). -/
  | addRmRoRn (q : Bool) (m o n : BitVec 5)
  /-- `3nmE` ADDC Rm, Rn (R143). -/
  | addcRmRn (m n : BitVec 4)
  /-- `CEeE-3nmF` ADDC Rm, Rn (R143). -/
  | addcRmRnCe (q : Bool) (m n : BitVec 5)
  /-- `CEeF-3nmF` ADDV Rm, Rn (R144). -/
  | addv (q : Bool) (m n : BitVec 5)
  /-- `3nm0` CMP/EQ Rm, Rn (R145). -/
  | cmpEqRmRn (m n : BitVec 4)
  /-- `CEe0-3nmF` CMP/EQ Rm, Rn (R145). -/
  | cmpEqRmRnCe (q : Bool) (m n : BitVec 5)
  /-- `88ii` CMP/EQ #imm8s, R0 (R146). -/
  | cmpEqImm8sR0 (imm : BitVec 8)
  /-- `8Eii-3ni0` CMP/EQ #imm12s, Rn (R146). -/
  | cmpEqImm12sRn (imm : BitVec 12) (n : BitVec 4)
  /-- `CEfi-3ni0` CMP/EQ #imm10s, Rn (R146). -/
  | cmpEqImm10sRn (q : Bool) (imm : BitVec 10) (n : BitVec 5)
  /-- `8Eii-3ni3` CMP/GE #imm12s, Rn (R147). -/
  | cmpGeImm12sRn (imm : BitVec 12) (n : BitVec 4)
  /-- `CEfi-3ni3` CMP/GE #imm10s, Rn (R147). -/
  | cmpGeImm10sRn (q : Bool) (imm : BitVec 10) (n : BitVec 5)
  /-- `CEe3-3nmF` CMP/GE Rm, Rn (R147). -/
  | cmpGeRmRn (q : Bool) (m n : BitVec 5)
  /-- `3nm7` CMP/GT Rm, Rn (R148). -/
  | cmpGtRmRn (m n : BitVec 4)
  /-- `8Eii-3ni7` CMP/GT #imm12s, Rn (R148). -/
  | cmpGtImm12sRn (imm : BitVec 12) (n : BitVec 4)
  /-- `CEfi-3ni7` CMP/GT #imm10s, Rn (R148). -/
  | cmpGtImm10sRn (q : Bool) (imm : BitVec 10) (n : BitVec 5)
  /-- `CEe7-3nmF` CMP/GT Rm, Rn (R148). -/
  | cmpGtRmRnCe (q : Bool) (m n : BitVec 5)
  /-- `3nm6` CMP/HI Rm, Rn (R149). -/
  | cmpHiRmRn (m n : BitVec 4)
  /-- `8Eii-3ni6` CMP/HI #imm12s, Rn (R149). -/
  | cmpHiImm12sRn (imm : BitVec 12) (n : BitVec 4)
  /-- `CEe6-3nmF` CMP/HI Rm, Rn (R149). -/
  | cmpHiRmRnCe (q : Bool) (m n : BitVec 5)
  /-- `CEfi-3ni6` CMP/HI #imm10s, Rn (R149). -/
  | cmpHiImm10sRn (q : Bool) (imm : BitVec 10) (n : BitVec 5)
  /-- `8Eii-3ni2` CMP/HS #imm12s, Rn (R150). -/
  | cmpHsImm12sRn (imm : BitVec 12) (n : BitVec 4)
  /-- `CEe2-3nmF` CMP/HS Rm, Rn (R150). -/
  | cmpHsRmRn (q : Bool) (m n : BitVec 5)
  /-- `CEfi-3ni2` CMP/HS #imm10s, Rn (R150). -/
  | cmpHsImm10sRn (q : Bool) (imm : BitVec 10) (n : BitVec 5)
  /-- `4n15` CMP/PL Rn (R151). -/
  | cmpPl (n : BitVec 4)
  /-- `4n11` CMP/PZ Rn (R152). -/
  | cmpPz (n : BitVec 4)
  /-- `05F8` DIV0S R5, R4 (R153). -/
  | div0s
  /-- `0019` DIV0U (R154). -/
  | div0u
  /-- `04F8` DIV1 R5, R4 (R155). -/
  | div1
  /-- `3nmD` DMULS.L Rm, Rn (R156). -/
  | dmulsL (m n : BitVec 4)
  /-- `3nm5` DMULU.L Rm, Rn (R157). -/
  | dmuluL (m n : BitVec 4)
  /-- `4n10` DT Rn (R158). -/
  | dt (n : BitVec 4)
  /-- `8Ejj-9njj` LDSH16Z #imm16, Rn (R0..R15) (R159). -/
  | ldsh16zImm16Rn (imm : BitVec 16) (n : BitVec 4)
  /-- `CEjj-9njj` LDSH16Z #imm16, Rn (R16..R31) (R159). -/
  | ldsh16zImm16RnHi (imm : BitVec 16) (n : BitVec 4)
  /-- `8Ejj-2nmE` MUL Rm, #imm8, Rn (R160). -/
  | mulRmImm8Rn (m : BitVec 4) (imm : BitVec 8) (n : BitVec 4)
  /-- `8Ejj-2nmF` MUL Rm, #-imm8, Rn (R160). -/
  | mulRmNegImm8Rn (m : BitVec 4) (imm : BitVec 8) (n : BitVec 4)
  /-- `CEfj-2nmE` MUL Rm, #imm6, Rn (R160). -/
  | mulRmImm6Rn (m : BitVec 5) (imm : BitVec 6) (n : BitVec 5)
  /-- `CEfj-2nmF` MUL Rm, #-imm6, Rn (R160). -/
  | mulRmNegImm6Rn (m : BitVec 5) (imm : BitVec 6) (n : BitVec 5)
  /-- `CEeo-Anm2` MUL Rm, Ro, Rn (R160). -/
  | mulRmRoRn (q : Bool) (m o n : BitVec 5)
  /-- `2nmD` MUL.L Rm, Rn (R161). -/
  | mulLRmRn (m n : BitVec 4)
  /-- `CEe9-3nmF` MUL.L Rm, Rn (R161). -/
  | mulLRmRnCe (m n : BitVec 5)
  /-- `2nmF` MULS.W Rm, Rn (R162). -/
  | mulsW (m n : BitVec 4)
  /-- `2nmE` MULU.W Rm, Rn (R163). -/
  | muluW (m n : BitVec 4)
  /-- `6nmB` NEG Rm, Rn (R164). -/
  | negRmRn (m n : BitVec 4)
  /-- `CEeB-6nmF` NEG Rm, Rn (R164). -/
  | negRmRnCe (q : Bool) (m n : BitVec 5)
  /-- `6nmA` NEGC Rm, Rn (R165). -/
  | negcRmRn (m n : BitVec 4)
  /-- `CEeA-6nmF` NEGC Rm, Rn (R165). -/
  | negcRmRnCe (q : Bool) (m n : BitVec 5)
  /-- `3nm8` SUB Rm, Rn (R166). -/
  | subRmRn (m n : BitVec 4)
  /-- `CEe8-3nmF` SUB Rm, Rn (R166). -/
  | subRmRnCe (q : Bool) (m n : BitVec 5)
  /-- `8Ejj-3nm8` SUB Rm, #imm8, Rn (R167). -/
  | subRmImm8Rn (m : BitVec 4) (imm : BitVec 8) (n : BitVec 4)
  /-- `CEfj-3nm8` SUB Rm, #imm6, Rn (R167). -/
  | subRmImm6Rn (m : BitVec 5) (imm : BitVec 6) (n : BitVec 5)
  /-- `CEeo-Anm1` SUB Rm, Ro, Rn (R167). -/
  | subRmRoRn (q : Bool) (m o n : BitVec 5)
  /-- `3nmA` SUBC Rm, Rn (R168). -/
  | subc (m n : BitVec 4)
  /-- `CEeB-3nmF` SUBV Rm, Rn (R169). -/
  | subv (q : Bool) (m n : BitVec 5)
  /-- `2nm9` AND Rm, Rn (R180). -/
  | andRmRn (m n : BitVec 4)
  /-- `C9jj` AND #imm8, R0 (R181). -/
  | andImm8R0 (imm : BitVec 8)
  /-- `8Eii-C9ni` AND #imm12s, Rn (R181). -/
  | andImm12sRn (imm : BitVec 12) (n : BitVec 4)
  /-- `8Ejj-2nm9` AND Rm, #imm8, Rn (R182). -/
  | andRmImm8Rn (m : BitVec 4) (imm : BitVec 8) (n : BitVec 4)
  /-- `CEfj-2nm9` AND Rm, #imm6, Rn (R182). -/
  | andRmImm6Rn (m : BitVec 5) (imm : BitVec 6) (n : BitVec 5)
  /-- `8Ejj-3nm9` AND Rm, #-imm8, Rn (R182). -/
  | andRmNegImm8Rn (m : BitVec 4) (imm : BitVec 8) (n : BitVec 4)
  /-- `CEfj-3nm9` AND Rm, #-imm6, Rn (R182). -/
  | andRmNegImm6Rn (m : BitVec 5) (imm : BitVec 6) (n : BitVec 5)
  /-- `CEeo-Anm3` AND Rm, Ro, Rn (R182). -/
  | andRmRoRn (q : Bool) (m o n : BitVec 5)
  /-- `CEeo-AnmA` CSELT Rm, Ro, Rn (R183). -/
  | cselt (m o n : BitVec 5)
  /-- `4n50` EXTS.B Rn (R184). -/
  | extsBRn (n : BitVec 4)
  /-- `6nmE` EXTS.B Rm, Rn (R184). -/
  | extsBRmRn (m n : BitVec 4)
  /-- `CEeE-6nmF` EXTS.B Rm, Rn (R184). -/
  | extsBRmRnCe (m n : BitVec 5)
  /-- `4n54` EXTS.L Rn (R185). -/
  | extsL (n : BitVec 4)
  /-- `4n51` EXTS.W Rn (R186). -/
  | extsWRn (n : BitVec 4)
  /-- `6nmF` EXTS.W Rm, Rn (R186). -/
  | extsWRmRn (m n : BitVec 4)
  /-- `CEeF-6nmF` EXTS.W Rm, Rn (R186). -/
  | extsWRmRnCe (m n : BitVec 5)
  /-- `4n40` EXTU.B Rn (R187). -/
  | extuBRn (n : BitVec 4)
  /-- `6nmC` EXTU.B Rm, Rn (R187). -/
  | extuBRmRn (m n : BitVec 4)
  /-- `CEeC-6nmF` EXTU.B Rm, Rn (R187). -/
  | extuBRmRnCe (m n : BitVec 5)
  /-- `4n44` EXTU.L Rn (R188). -/
  | extuLRn (n : BitVec 4)
  /-- `CEeD-6nmF` EXTU.L Rm, Rn (R188). -/
  | extuLRmRn (m n : BitVec 5)
  /-- `4n41` EXTU.W Rn (R189). -/
  | extuWRn (n : BitVec 4)
  /-- `6nmD` EXTU.W Rm, Rn (R189). -/
  | extuWRmRn (m n : BitVec 4)
  /-- `CEeD-6nmF` EXTU.W Rm, Rn (R189). -/
  | extuWRmRnCe (m n : BitVec 5)
  /-- `4nmF` MOV Rm, Rn (R190). -/
  | movRmRn (m n : BitVec 4)
  /-- `CEe0-4nmF` MOV Rm, Rn (R190). -/
  | movRmRnCe (m n : BitVec 5)
  /-- `Enii` MOV #imm8s, Rn (R191). -/
  | movImm8sRn (imm : BitVec 8) (n : BitVec 4)
  /-- `8Eii-Enii` MOV #imm16s, Rn (R0..R15) (R191). -/
  | movImm16sRn (imm : BitVec 16) (n : BitVec 4)
  /-- `CEii-Enii` MOV #imm16s, Rn (R16..R31) (R191). -/
  | movImm16sRnHi (imm : BitVec 16) (n : BitVec 4)
  /-- `0n29` MOVT Rn (R192). -/
  | movt (n : BitVec 4)
  /-- `3nmB` NOT Rm, Rn (R193). -/
  | notRmRn (m n : BitVec 4)
  /-- `CEe7-4nmF` NOT Rm, Rn (R193). -/
  | notRmRnCe (q : Bool) (m n : BitVec 5)
  /-- `2nmB` OR Rm, Rn (R194). -/
  | orRmRn (m n : BitVec 4)
  /-- `CEeB-4nmF` OR Rm, Rn (R194). -/
  | orRmRnCe (q : Bool) (m n : BitVec 5)
  /-- `CBjj` OR #imm8, R0 (R195). -/
  | orImm8R0 (imm : BitVec 8)
  /-- `8Eii-CBni` OR #imm12s, Rn (R195). -/
  | orImm12sRn (imm : BitVec 12) (n : BitVec 4)
  /-- `8Ejj-2nmB` OR Rm, #imm8, Rn (R196). -/
  | orRmImm8Rn (m : BitVec 4) (imm : BitVec 8) (n : BitVec 4)
  /-- `CEfj-2nmB` OR Rm, #imm6, Rn (R196). -/
  | orRmImm6Rn (m : BitVec 5) (imm : BitVec 6) (n : BitVec 5)
  /-- `CEeo-Anm4` OR Rm, Ro, Rn (R196). -/
  | orRmRoRn (q : Bool) (m o n : BitVec 5)
  /-- `4n49` SWAP.B Rn (R197). -/
  | swapBRn (n : BitVec 4)
  /-- `CEe8-6nmF` SWAP.B Rm, Rn (R197). -/
  | swapBRmRn (m n : BitVec 5)
  /-- `4n59` SWAP.W Rn (R198). -/
  | swapWRn (n : BitVec 4)
  /-- `CEe9-6nmF` SWAP.W Rm, Rn (R198). -/
  | swapWRmRn (m n : BitVec 5)
  /-- `2nm8` TST Rm, Rn (R199). -/
  | tstRmRn (m n : BitVec 4)
  /-- `CEe8-4nmF` TST Rm, Rn (R199). -/
  | tstRmRnCe (q : Bool) (m n : BitVec 5)
  /-- `C8jj` TST #imm8, R0 (R200). -/
  | tstImm8R0 (imm : BitVec 8)
  /-- `8Eii-C8ni` TST #imm12s, Rn (R200). -/
  | tstImm12sRn (imm : BitVec 12) (n : BitVec 4)
  /-- `CEfi-C8ni` TST #imm10s, Rn (R200). -/
  | tstImm10sRn (q : Bool) (imm : BitVec 10) (n : BitVec 5)
  /-- `2nmA` XOR Rm, Rn (R201). -/
  | xorRmRn (m n : BitVec 4)
  /-- `CEeA-4nmF` XOR Rm, Rn (R201). -/
  | xorRmRnCe (q : Bool) (m n : BitVec 5)
  /-- `CAjj` XOR #imm8, R0 (R202). -/
  | xorImm8R0 (imm : BitVec 8)
  /-- `8Eii-CAni` XOR #imm12s, Rn (R202). -/
  | xorImm12sRn (imm : BitVec 12) (n : BitVec 4)
  /-- `CEfi-CAni` XOR #imm10s, Rn (R202). -/
  | xorImm10sRn (q : Bool) (imm : BitVec 10) (n : BitVec 5)
  /-- `8Ejj-2nmA` XOR Rm, #imm8, Rn (R203). -/
  | xorRmImm8Rn (m : BitVec 4) (imm : BitVec 8) (n : BitVec 4)
  /-- `CEfj-2nmA` XOR Rm, #imm6, Rn (R203). -/
  | xorRmImm6Rn (m : BitVec 5) (imm : BitVec 6) (n : BitVec 5)
  /-- `CEeo-Anm5` XOR Rm, Ro, Rn (R203). -/
  | xorRmRoRn (q : Bool) (m o n : BitVec 5)
  /-- `08F8` XTRCT R4, R0 (R204). -/
  | xtrctR4R0
  /-- `09F8` XTRCT R0, R4 (R204). -/
  | xtrctR0R4
  /-- `4n14` ROT32 Rn (R221). -/
  | rot32 (n : BitVec 4)
  /-- `4n24` ROTCL Rn (R222). -/
  | rotcl (n : BitVec 4)
  /-- `4n25` ROTCR Rn (R223). -/
  | rotcr (n : BitVec 4)
  /-- `4n04` ROTL Rn (R224). -/
  | rotl (n : BitVec 4)
  /-- `4n05` ROTR Rn (R225). -/
  | rotr (n : BitVec 4)
  /-- `4nmC` SHAD Rm, Rn (R226). -/
  | shadRmRn (m n : BitVec 4)
  /-- `CEeC-4nmF` SHAD Rm, Rn (R226). -/
  | shadRmRnCe (q : Bool) (m n : BitVec 5)
  /-- `8Eii-4nmC` SHAD Rm, #imm, Rn (R227). -/
  | shadRmImmRn (m : BitVec 4) (imm : BitVec 8) (n : BitVec 4)
  /-- `CEeo-Anm8` SHAD Rm, Ro, Rn (R227). -/
  | shadRmRoRn (q : Bool) (m o n : BitVec 5)
  /-- `CEfi-4nmC` SHAD.L Rm, #imm6, Rn (R227). -/
  | shadL (m : BitVec 5) (imm : BitVec 6) (n : BitVec 5)
  /-- `4n20` SHAL Rn (R228). -/
  | shal (n : BitVec 4)
  /-- `CEfj-3nmD` SHAL.Q Rm, #imm6, Rn (alias SHLL.Q) (R229). -/
  | shalQ (m : BitVec 5) (imm : BitVec 6) (n : BitVec 5)
  /-- `4n21` SHAR Rn (R230). -/
  | sharRn (n : BitVec 4)
  /-- `CEfj-3nmA` SHAR.Q Rm, #imm6, Rn (R231). -/
  | sharQ (m : BitVec 5) (imm : BitVec 6) (n : BitVec 5)
  /-- `CEeo-Anm9` SHAR Rm, Ro, Rn (R231). -/
  | sharRmRoRn (q : Bool) (m o n : BitVec 5)
  /-- `4nmD` SHLD Rm, Rn (R232). -/
  | shldRmRn (m n : BitVec 4)
  /-- `8Eii-4nmD` SHLD Rm, #imm8, Rn (R233). -/
  | shldRmImm8Rn (m : BitVec 4) (imm : BitVec 8) (n : BitVec 4)
  /-- `CEfi-4nmD` SHLD Rm, #imm6, Rn (R233). -/
  | shldRmImm6Rn (m : BitVec 5) (imm : BitVec 6) (n : BitVec 5)
  /-- `CEeo-Anm6` SHLD Rm, Ro, Rn (R233). -/
  | shldRmRoRn (q : Bool) (m o n : BitVec 5)
  /-- `4n00` SHLL Rn (R234). -/
  | shll (n : BitVec 4)
  /-- `4n08` SHLL2 Rn (R236). -/
  | shll2 (n : BitVec 4)
  /-- `4n34` SHLL4 Rn (R237). -/
  | shll4 (n : BitVec 4)
  /-- `4n18` SHLL8 Rn (R238). -/
  | shll8 (n : BitVec 4)
  /-- `4n28` SHLL16 Rn (R239). -/
  | shll16 (n : BitVec 4)
  /-- `4n38` SHLL32 Rn (R240). -/
  | shll32 (n : BitVec 4)
  /-- `4n01` SHLR Rn (R241). -/
  | shlrRn (n : BitVec 4)
  /-- `CEfj-3nmB` SHLR.Q Rm, #imm6, Rn (R242). -/
  | shlrQ (m : BitVec 5) (imm : BitVec 6) (n : BitVec 5)
  /-- `CEeo-Anm7` SHLR Rm, Ro, Rn (R242). -/
  | shlrRmRoRn (q : Bool) (m o n : BitVec 5)
  /-- `4n09` SHLR2 Rn (R243). -/
  | shlr2 (n : BitVec 4)
  /-- `4n35` SHLR4 Rn (R244). -/
  | shlr4 (n : BitVec 4)
  /-- `4n19` SHLR8 Rn (R245). -/
  | shlr8 (n : BitVec 4)
  /-- `4n29` SHLR16 Rn (R246). -/
  | shlr16 (n : BitVec 4)
  /-- `4n39` SHLR32 Rn (R247). -/
  | shlr32 (n : BitVec 4)
  /-- `06F8` CAS.L R5, R4, @R0 (R260). -/
  | casL
  /-- `4nF5` LEA.B @(PC, R0), Rn (R261). -/
  | leaBAtPcR0Rn (n : BitVec 4)
  /-- `8Eod-6nm4` LEA.B @(Rm, Ro, disp4), Rn (R261). -/
  | leaBAtRmRoDisp4Rn (m o disp n : BitVec 4)
  /-- `8Edd-6nm8` LEA.B @(Rm, disp8s), Rn (R261). -/
  | leaBAtRmDisp8sRn (m : BitVec 4) (disp : BitVec 8) (n : BitVec 4)
  /-- `CEfo-6nm4` LEA.B @(Rm, Ro), Rn (R261). -/
  | leaBAtRmRoRn (m : BitVec 5) (o : BitVec 4) (n : BitVec 5)
  /-- `CEfd-6nm8` LEA.B @(Rm, disp6), Rn (R261). -/
  | leaBAtRmDisp6Rn (m : BitVec 5) (disp : BitVec 6) (n : BitVec 5)
  /-- `8Eod-6nm5` LEA.W @(Rm, Ro, disp4), Rn (R262). -/
  | leaWAtRmRoDisp4Rn (m o disp n : BitVec 4)
  /-- `8Edd-6nm9` LEA.W @(Rm, disp8s), Rn (R262). -/
  | leaWAtRmDisp8sRn (m : BitVec 4) (disp : BitVec 8) (n : BitVec 4)
  /-- `CEfo-6nm5` LEA.W @(Rm, Ro), Rn (R262). -/
  | leaWAtRmRoRn (m : BitVec 5) (o : BitVec 4) (n : BitVec 5)
  /-- `CEfd-6nm9` LEA.W @(Rm, disp6), Rn (R262). -/
  | leaWAtRmDisp6Rn (m : BitVec 5) (disp : BitVec 6) (n : BitVec 5)
  /-- `8Eod-6nm6` LEA.L @(Rm, Ro, disp4), Rn (R263). -/
  | leaLAtRmRoDisp4Rn (m o disp n : BitVec 4)
  /-- `8Edd-6nmA` LEA.L @(Rm, disp8s), Rn (R263). -/
  | leaLAtRmDisp8sRn (m : BitVec 4) (disp : BitVec 8) (n : BitVec 4)
  /-- `CEfo-6nm6` LEA.L @(Rm, Ro), Rn (R263). -/
  | leaLAtRmRoRn (m : BitVec 5) (o : BitVec 4) (n : BitVec 5)
  /-- `CEfd-6nmA` LEA.L @(Rm, disp6), Rn (R263). -/
  | leaLAtRmDisp6Rn (m : BitVec 5) (disp : BitVec 6) (n : BitVec 5)
  /-- `8Eod-6nm7` LEA.Q @(Rm, Ro, disp4), Rn (R264). -/
  | leaQAtRmRoDisp4Rn (m o disp n : BitVec 4)
  /-- `8Edd-6nmB` LEA.Q @(Rm, disp8s), Rn (R264). -/
  | leaQAtRmDisp8sRn (m : BitVec 4) (disp : BitVec 8) (n : BitVec 4)
  /-- `CEfo-6nm7` LEA.Q @(Rm, Ro), Rn (R264). -/
  | leaQAtRmRoRn (m : BitVec 5) (o : BitVec 4) (n : BitVec 5)
  /-- `CEfd-6nmB` LEA.Q @(Rm, disp6), Rn (R264). -/
  | leaQAtRmDisp6Rn (m : BitVec 5) (disp : BitVec 6) (n : BitVec 5)
  /-- `0nm4` MOV.B Rm, @(R0, Rn) (R265). -/
  | movBRmAtR0Rn (m n : BitVec 4)
  /-- `2nm0` MOV.B Rm, @Rn (R265). -/
  | movBRmAtRn (m n : BitVec 4)
  /-- `2nm4` MOV.B Rm, @-Rn (R265). -/
  | movBRmDecRn (m n : BitVec 4)
  /-- `0nmC` MOV.B @(R0, Rm), Rn (R266). -/
  | movBAtR0RmRn (m n : BitVec 4)
  /-- `6nm0` MOV.B @Rm, Rn (R266). -/
  | movBAtRmRn (m n : BitVec 4)
  /-- `6nm4` MOV.B @Rm+, Rn (R266). -/
  | movBIncRmRn (m n : BitVec 4)
  /-- `4mC1` MOV.B Rm, @(PC, R0) (R265). -/
  | movBRmAtPcR0 (m : BitVec 4)
  /-- `4nC5` MOV.B @(PC, R0), Rn (R266). -/
  | movBAtPcR0Rn (n : BitVec 4)
  /-- `8Eod-0nm4` MOV.B Rm, @(Rn, Ro, disp4) (R265). -/
  | movBRmAtRnRoDisp4 (m n o disp : BitVec 4)
  /-- `8Edd-2nm0` MOV.B Rm, @(Rn, disp8s) (R265). -/
  | movBRmAtRnDisp8s (m n : BitVec 4) (disp : BitVec 8)
  /-- `8Eod-0nmC` MOV.B @(Rm, Ro, disp4), Rn (R266). -/
  | movBAtRmRoDisp4Rn (m o disp n : BitVec 4)
  /-- `8Edd-6nm0` MOV.B @(Rm, disp8s), Rn (R266). -/
  | movBAtRmDisp8sRn (m : BitVec 4) (disp : BitVec 8) (n : BitVec 4)
  /-- `CEeo-0nm4` MOV.B Rm, @(Rn, Ro) (R265). -/
  | movBRmAtRnRo (m n o : BitVec 5)
  /-- `CEfd-2nm0` MOV.B Rm, @(Rn, disp6) (R265). -/
  | movBRmAtRnDisp6 (m n : BitVec 5) (disp : BitVec 6)
  /-- `CEeo-0nmC` MOV.B @(Rm, Ro), Rn (R266). -/
  | movBAtRmRoRn (m o n : BitVec 5)
  /-- `CEfd-6nm0` MOV.B @(Rm, disp6), Rn (R266). -/
  | movBAtRmDisp6Rn (m : BitVec 5) (disp : BitVec 6) (n : BitVec 5)
  /-- `0nm6` MOV.L Rm, @(R0, Rn) (R267). -/
  | movLRmAtR0Rn (m n : BitVec 4)
  /-- `1nmd` MOV.L Rm, @(Rn, disp4) (R267). -/
  | movLRmAtRnDisp4 (m n disp : BitVec 4)
  /-- `2nm2` MOV.L Rm, @Rn (R267). -/
  | movLRmAtRn (m n : BitVec 4)
  /-- `2nm6` MOV.L Rm, @-Rn (R267). -/
  | movLRmDecRn (m n : BitVec 4)
  /-- `0nmE` MOV.L @(R0, Rm), Rn (R268). -/
  | movLAtR0RmRn (m n : BitVec 4)
  /-- `5nmd` MOV.L @(Rm, disp4), Rn (R268). -/
  | movLAtRmDisp4Rn (m disp n : BitVec 4)
  /-- `6nm2` MOV.L @Rm, Rn (R268). -/
  | movLAtRmRn (m n : BitVec 4)
  /-- `6nm6` MOV.L @Rm+, Rn (R268). -/
  | movLIncRmRn (m n : BitVec 4)
  /-- `Dndd` MOV.L @(PC, disp8), Rn (R268). -/
  | movLAtPcDisp8Rn (disp : BitVec 8) (n : BitVec 4)
  /-- `4mE1` MOV.L Rm, @(PC, R0) (R267). -/
  | movLRmAtPcR0 (m : BitVec 4)
  /-- `4nE5` MOV.L @(PC, R0), Rn (R268). -/
  | movLAtPcR0Rn (n : BitVec 4)
  /-- `8Eod-0nm6` MOV.L Rm, @(Rn, Ro, disp4) (R267). -/
  | movLRmAtRnRoDisp4 (m n o disp : BitVec 4)
  /-- `8Edd-1nmo` MOV.L Rm, @(Rn, Ro, disp8s) (R267). -/
  | movLRmAtRnRoDisp8s (m n o : BitVec 4) (disp : BitVec 8)
  /-- `8Edd-2nm2` MOV.L Rm, @(Rn, disp8s) (R267). -/
  | movLRmAtRnDisp8s (m n : BitVec 4) (disp : BitVec 8)
  /-- `8Eod-0nmE` MOV.L @(Rm, Ro, disp4), Rn (R268). -/
  | movLAtRmRoDisp4Rn (m o disp n : BitVec 4)
  /-- `8Edd-5nmo` MOV.L @(Rm, Ro, disp8s), Rn (R268). -/
  | movLAtRmRoDisp8sRn (m o : BitVec 4) (disp : BitVec 8) (n : BitVec 4)
  /-- `8Edd-6nm2` MOV.L @(Rm, disp8s), Rn (R268). -/
  | movLAtRmDisp8sRn (m : BitVec 4) (disp : BitVec 8) (n : BitVec 4)
  /-- `CEeo-0nm6` MOV.L Rm, @(Rn, Ro) (R267). -/
  | movLRmAtRnRo (m n o : BitVec 5)
  /-- `CEfd-2nm2` MOV.L Rm, @(Rn, disp6) (R267). -/
  | movLRmAtRnDisp6 (m n : BitVec 5) (disp : BitVec 6)
  /-- `CEeo-0nmE` MOV.L @(Rm, Ro), Rn (R268). -/
  | movLAtRmRoRn (m o n : BitVec 5)
  /-- `CEfd-6nm2` MOV.L @(Rm, disp6), Rn (R268). -/
  | movLAtRmDisp6Rn (m : BitVec 5) (disp : BitVec 6) (n : BitVec 5)
  /-- `0nm7` MOV.Q Rm, @(R0, Rn) (R269). -/
  | movQRmAtR0Rn (m n : BitVec 4)
  /-- `0nmF` MOV.Q @(R0, Rm), Rn (R270). -/
  | movQAtR0RmRn (m n : BitVec 4)
  /-- `2nm3` MOV.Q Rm, @Rn (R269). -/
  | movQRmAtRn (m n : BitVec 4)
  /-- `2nm7` MOV.Q Rm, @-Rn (R269). -/
  | movQRmDecRn (m n : BitVec 4)
  /-- `4mA1` MOV.Q Rm, @(PC, R0) (R269). -/
  | movQRmAtPcR0 (m : BitVec 4)
  /-- `4nA5` MOV.Q @(PC, R0), Rn (R270). -/
  | movQAtPcR0Rn (n : BitVec 4)
  /-- `6nm3` MOV.Q @Rm, Rn (R270). -/
  | movQAtRmRn (m n : BitVec 4)
  /-- `6nm7` MOV.Q @Rm+, Rn (R270). -/
  | movQIncRmRn (m n : BitVec 4)
  /-- `C0md` MOV.Q Rm, @(SP, disp4) (R269). -/
  | movQRmAtSpDisp4 (m disp : BitVec 4)
  /-- `C4nd` MOV.Q @(SP, disp4), Rn (R270). -/
  | movQAtSpDisp4Rn (disp n : BitVec 4)
  /-- `8Eod-0nm7` MOV.Q Rm, @(Rn, Ro, disp4) (R269). -/
  | movQRmAtRnRoDisp4 (m n o disp : BitVec 4)
  /-- `8Eod-0nmF` MOV.Q @(Rm, Ro, disp4), Rn (R270). -/
  | movQAtRmRoDisp4Rn (m o disp n : BitVec 4)
  /-- `8Edd-2nm3` MOV.Q Rm, @(Rn, disp8s) (R269). -/
  | movQRmAtRnDisp8s (m n : BitVec 4) (disp : BitVec 8)
  /-- `8Edd-6nm3` MOV.Q @(Rm, disp8s), Rn (R270). -/
  | movQAtRmDisp8sRn (m : BitVec 4) (disp : BitVec 8) (n : BitVec 4)
  /-- `CEeo-0nm7` MOV.Q Rm, @(Rn, Ro) (R269). -/
  | movQRmAtRnRo (m n o : BitVec 5)
  /-- `CEeo-0nmF` MOV.Q @(Rm, Ro), Rn (R270). -/
  | movQAtRmRoRn (m o n : BitVec 5)
  /-- `CEfd-2nm3` MOV.Q Rm, @(Rn, disp6) (R269). -/
  | movQRmAtRnDisp6 (m n : BitVec 5) (disp : BitVec 6)
  /-- `CEfd-6nm3` MOV.Q @(Rm, disp6), Rn (R270). -/
  | movQAtRmDisp6Rn (m : BitVec 5) (disp : BitVec 6) (n : BitVec 5)
  /-- `0nm5` MOV.W Rm, @(R0, Rn) (R271). -/
  | movWRmAtR0Rn (m n : BitVec 4)
  /-- `0nmD` MOV.W @(R0, Rm), Rn (R272). -/
  | movWAtR0RmRn (m n : BitVec 4)
  /-- `2nm1` MOV.W Rm, @Rn (R271). -/
  | movWRmAtRn (m n : BitVec 4)
  /-- `2nm5` MOV.W Rm, @-Rn (R271). -/
  | movWRmDecRn (m n : BitVec 4)
  /-- `4mD1` MOV.W Rm, @(PC, R0) (R271). -/
  | movWRmAtPcR0 (m : BitVec 4)
  /-- `4nD5` MOV.W @(PC, R0), Rn (R272). -/
  | movWAtPcR0Rn (n : BitVec 4)
  /-- `6nm1` MOV.W @Rm, Rn (R272). -/
  | movWAtRmRn (m n : BitVec 4)
  /-- `6nm5` MOV.W @Rm+, Rn (R272). -/
  | movWIncRmRn (m n : BitVec 4)
  /-- `9ndd` MOV.W @(PC, disp8), Rn (R272). -/
  | movWAtPcDisp8Rn (disp : BitVec 8) (n : BitVec 4)
  /-- `8Eod-0nm5` MOV.W Rm, @(Rn, Ro, disp4) (R271). -/
  | movWRmAtRnRoDisp4 (m n o disp : BitVec 4)
  /-- `8Eod-0nmD` MOV.W @(Rm, Ro, disp4), Rn (R272). -/
  | movWAtRmRoDisp4Rn (m o disp n : BitVec 4)
  /-- `8Edd-2nm1` MOV.W Rm, @(Rn, disp8s) (R271). -/
  | movWRmAtRnDisp8s (m n : BitVec 4) (disp : BitVec 8)
  /-- `8Edd-6nm1` MOV.W @(Rm, disp8s), Rn (R272). -/
  | movWAtRmDisp8sRn (m : BitVec 4) (disp : BitVec 8) (n : BitVec 4)
  /-- `CEeo-0nm5` MOV.W Rm, @(Rn, Ro) (R271). -/
  | movWRmAtRnRo (m n o : BitVec 5)
  /-- `CEfd-2nm1` MOV.W Rm, @(Rn, disp6) (R271). -/
  | movWRmAtRnDisp6 (m n : BitVec 5) (disp : BitVec 6)
  /-- `CEeo-0nmD` MOV.W @(Rm, Ro), Rn (R272). -/
  | movWAtRmRoRn (m o n : BitVec 5)
  /-- `CEfd-6nm1` MOV.W @(Rm, disp6), Rn (R272). -/
  | movWAtRmDisp6Rn (m : BitVec 5) (disp : BitVec 6) (n : BitVec 5)
  /-- `C7dd` MOVA @(PC, disp8), R0 (R273). -/
  | mova (disp : BitVec 8)
  /-- `0nC3` MOVCA.L R0, @Rn (R274). -/
  | movcaL (n : BitVec 4)
  /-- `8Edd-6nmC` MOVU.B @(Rm, disp8s), Rn (R275). -/
  | movuBAtRmDisp8sRn (m : BitVec 4) (disp : BitVec 8) (n : BitVec 4)
  /-- `CEfd-6nmC` MOVU.B @(Rm, disp6), Rn (R275). -/
  | movuBAtRmDisp6Rn (m : BitVec 5) (disp : BitVec 6) (n : BitVec 5)
  /-- `8Edd-6nmD` MOVU.W @(Rm, disp8s), Rn (R276). -/
  | movuWAtRmDisp8sRn (m : BitVec 4) (disp : BitVec 8) (n : BitVec 4)
  /-- `CEfd-6nmD` MOVU.W @(Rm, disp6), Rn (R276). -/
  | movuWAtRmDisp6Rn (m : BitVec 5) (disp : BitVec 6) (n : BitVec 5)
  /-- `8Edd-6nmE` MOVU.L @(Rm, disp8s), Rn (R277). -/
  | movuLAtRmDisp8sRn (m : BitVec 4) (disp : BitVec 8) (n : BitVec 4)
  /-- `CEfd-6nmE` MOVU.L @(Rm, disp6), Rn (R277). -/
  | movuLAtRmDisp6Rn (m : BitVec 5) (disp : BitVec 6) (n : BitVec 5)
  /-- `4n58` POP.Q Rn (R0..R15) (R278). -/
  | popQRn (n : BitVec 4)
  /-- `4n78` POP.Q Rn (R16..R31) (R278). -/
  | popQRnHi (n : BitVec 4)
  /-- `4m48` PUSH.Q Rm (R0..R15) (R279). -/
  | pushQRm (m : BitVec 4)
  /-- `4m68` PUSH.Q Rm (R16..R31) (R279). -/
  | pushQRmHi (m : BitVec 4)
  /-- `8Bdd` BF label8s (R301). -/
  | bfLabel8s (label : BitVec 8)
  /-- `8Edd-8Bdd` BF label16s (R301). -/
  | bfLabel16s (label : BitVec 16)
  /-- `8Fdd` BF/S label8s (R302). -/
  | bfSLabel8s (label : BitVec 8)
  /-- `8Edd-8Fdd` BF/S label16s (R302). -/
  | bfSLabel16s (label : BitVec 16)
  /-- `Addd` BRA label12s (R303). -/
  | bra (label : BitVec 12)
  /-- `0n23` BRAF Rn (R304). -/
  | braf (n : BitVec 4)
  /-- `82dd` BRA/N label8s (R305). -/
  | braNLabel8s (label : BitVec 8)
  /-- `8Edd-82dd` BRA/N label16s (R305). -/
  | braNLabel16s (label : BitVec 16)
  /-- `Bddd` BSR label12s (R306). -/
  | bsr (label : BitVec 12)
  /-- `0n03` BSRF Rn (R307). -/
  | bsrf (n : BitVec 4)
  /-- `8Edd-83dd` BSR/N label16s (R308). -/
  | bsrN (label : BitVec 16)
  /-- `89dd` BT label8s (R309). -/
  | btLabel8s (label : BitVec 8)
  /-- `8Edd-89dd` BT label16s (R309). -/
  | btLabel16s (label : BitVec 16)
  /-- `8Ddd` BT/S label8s (R310). -/
  | btSLabel8s (label : BitVec 8)
  /-- `8Edd-8Ddd` BT/S label16s (R310). -/
  | btSLabel16s (label : BitVec 16)
  /-- `4n2B` JMP Rn (R311). -/
  | jmp (n : BitVec 4)
  /-- `4n0B` JSR Rn (R312). -/
  | jsr (n : BitVec 4)
  /-- `000B` RTS (R313). -/
  | rts
  /-- `003B` BRK (R330). -/
  | brk
  /-- `0028` CLRMAC (R331). -/
  | clrmac
  /-- `0048` CLRS (R332). -/
  | clrs
  /-- `0008` CLRT (R333). -/
  | clrt
  /-- `4m0E` LDC Rm, SR (R334). -/
  | ldcRmSr (m : BitVec 4)
  /-- `4m1E` LDC Rm, GBR (R334). -/
  | ldcRmGbr (m : BitVec 4)
  /-- `4m2E` LDC Rm, VBR (R334). -/
  | ldcRmVbr (m : BitVec 4)
  /-- `4m3E` LDC Rm, SSR (R334). -/
  | ldcRmSsr (m : BitVec 4)
  /-- `4m4E` LDC Rm, SPC (R334). -/
  | ldcRmSpc (m : BitVec 4)
  /-- `4mNE` LDC Rm, RnB (R334). -/
  | ldcRmBank (m : BitVec 4) (b : BitVec 3)
  /-- `4mFA` LDC Rm, DBR (R334). -/
  | ldcRmDbr (m : BitVec 4)
  /-- `4m07` LDC.L @Rm+, SR (R335). -/
  | ldcLIncRmSr (m : BitVec 4)
  /-- `4m17` LDC.L @Rm+, GBR (R335). -/
  | ldcLIncRmGbr (m : BitVec 4)
  /-- `4m27` LDC.L @Rm+, VBR (R335). -/
  | ldcLIncRmVbr (m : BitVec 4)
  /-- `4m37` LDC.L @Rm+, SSR (R335). -/
  | ldcLIncRmSsr (m : BitVec 4)
  /-- `4m47` LDC.L @Rm+, SPC (R335). -/
  | ldcLIncRmSpc (m : BitVec 4)
  /-- `4mN7` LDC.L @Rm+, RnB (R335). -/
  | ldcLIncRmBank (m : BitVec 4) (b : BitVec 3)
  /-- `4mF6` LDC.L @Rm+, DBR (R335). -/
  | ldcLIncRmDbr (m : BitVec 4)
  /-- `4m0A` LDS Rm, MACH (R336). -/
  | ldsRmMach (m : BitVec 4)
  /-- `4m1A` LDS Rm, MACL (R336). -/
  | ldsRmMacl (m : BitVec 4)
  /-- `4m2A` LDS Rm, PR (R336). -/
  | ldsRmPr (m : BitVec 4)
  /-- `4m5A` LDS Rm, FPUL (R336). -/
  | ldsRmFpul (m : BitVec 4)
  /-- `4m6A` LDS Rm, FPSCR (R336). -/
  | ldsRmFpscr (m : BitVec 4)
  /-- `4m06` LDS.L @Rm+, MACH (R337). -/
  | ldsLIncRmMach (m : BitVec 4)
  /-- `4m16` LDS.L @Rm+, MACL (R337). -/
  | ldsLIncRmMacl (m : BitVec 4)
  /-- `4m26` LDS.L @Rm+, PR (R337). -/
  | ldsLIncRmPr (m : BitVec 4)
  /-- `4m56` LDS.L @Rm+, FPUL (R337). -/
  | ldsLIncRmFpul (m : BitVec 4)
  /-- `4m66` LDS.L @Rm+, FPSCR (R337). -/
  | ldsLIncRmFpscr (m : BitVec 4)
  /-- `0038` LDTLB (R338). -/
  | ldtlb
  /-- `0009` NOP (R339). -/
  | nop
  /-- `0h09` NOP #imm (imm=1..14) (R339). -/
  | nopImm (imm : BitVec 4)
  /-- `002B` RTE (R340). -/
  | rte
  /-- `0058` SETS (R341). -/
  | sets
  /-- `0018` SETT (R342). -/
  | sett
  /-- `001B` SLEEP (R343). -/
  | sleep
  /-- `0n02` STC SR, Rn (R344). -/
  | stcSrRn (n : BitVec 4)
  /-- `0n12` STC GBR, Rn (R344). -/
  | stcGbrRn (n : BitVec 4)
  /-- `0n22` STC VBR, Rn (R344). -/
  | stcVbrRn (n : BitVec 4)
  /-- `0n32` STC SSR, Rn (R344). -/
  | stcSsrRn (n : BitVec 4)
  /-- `0n42` STC SPC, Rn (R344). -/
  | stcSpcRn (n : BitVec 4)
  /-- `0nFA` STC DBR, Rn (R344). -/
  | stcDbrRn (n : BitVec 4)
  /-- `0nM2` STC RmB, Rn (R344). -/
  | stcBankRn (b : BitVec 3) (n : BitVec 4)
  /-- `4n03` STC.L SR, @-Rn (R345). -/
  | stcLSrDecRn (n : BitVec 4)
  /-- `4n13` STC.L GBR, @-Rn (R345). -/
  | stcLGbrDecRn (n : BitVec 4)
  /-- `4n23` STC.L VBR, @-Rn (R345). -/
  | stcLVbrDecRn (n : BitVec 4)
  /-- `4n33` STC.L SSR, @-Rn (R345). -/
  | stcLSsrDecRn (n : BitVec 4)
  /-- `4n43` STC.L SPC, @-Rn (R345). -/
  | stcLSpcDecRn (n : BitVec 4)
  /-- `4nF2` STC.L DBR, @-Rn (R345). -/
  | stcLDbrDecRn (n : BitVec 4)
  /-- `4nM3` STC.L RmB, @-Rn (R345). -/
  | stcLBankDecRn (b : BitVec 3) (n : BitVec 4)
  /-- `0n0A` STS MACH, Rn (R346). -/
  | stsMachRn (n : BitVec 4)
  /-- `0n1A` STS MACL, Rn (R346). -/
  | stsMaclRn (n : BitVec 4)
  /-- `0n2A` STS PR, Rn (R346). -/
  | stsPrRn (n : BitVec 4)
  /-- `0n5A` STS FPUL, Rn (R346). -/
  | stsFpulRn (n : BitVec 4)
  /-- `0n6A` STS FPSCR, Rn (R346). -/
  | stsFpscrRn (n : BitVec 4)
  /-- `4n02` STS.L MACH, @-Rn (R347). -/
  | stsLMachDecRn (n : BitVec 4)
  /-- `4n12` STS.L MACL, @-Rn (R347). -/
  | stsLMaclDecRn (n : BitVec 4)
  /-- `4n22` STS.L PR, @-Rn (R347). -/
  | stsLPrDecRn (n : BitVec 4)
  /-- `4n52` STS.L FPUL, @-Rn (R347). -/
  | stsLFpulDecRn (n : BitVec 4)
  /-- `4n62` STS.L FPSCR, @-Rn (R347). -/
  | stsLFpscrDecRn (n : BitVec 4)
  /-- `C3jj` TRAPA #imm8 (R348). -/
  | trapa (imm : BitVec 8)
  /-- `Fn5D` FABS FRn | DRn (R373). -/
  | fabs (n : BitVec 4)
  /-- `Fnm0` FADD FRm, FRn | DRm, DRn (R374). -/
  | fadd (m n : BitVec 4)
  /-- `Fnm4` FCMPEQ FRm, FRn | DRm, DRn (R375). -/
  | fcmpeq (m n : BitVec 4)
  /-- `Fnm5` FCMPGT FRm, FRn | DRm, DRn (R376). -/
  | fcmpgt (m n : BitVec 4)
  /-- `FmBD` FCNVDS DRm, FPUL (R377). -/
  | fcnvds (m : BitVec 4)
  /-- `FnAD` FCNVSD FPUL, DRn (R378). -/
  | fcnvsd (n : BitVec 4)
  /-- `Fnm3` FDIV FRm, FRn | DRm, DRn (R379). -/
  | fdiv (m n : BitVec 4)
  /-- `FvED` FIPR FVm, FVn (R380). -/
  | fipr (vm vn : BitVec 2)
  /-- `Fn8D` FLDI0 FRn | DRn (R381). -/
  | fldi0 (n : BitVec 4)
  /-- `Fn9D` FLDI1 FRn | DRn (R382). -/
  | fldi1 (n : BitVec 4)
  /-- `Fm1D` FLDS FRm, FPUL (R383). -/
  | flds (m : BitVec 4)
  /-- `Fn2D` FLOAT FPUL, FRn | DRn (R384). -/
  | float (n : BitVec 4)
  /-- `FnmE` FMAC FRm, FRn (R385). -/
  | fmac (m n : BitVec 4)
  /-- `FnmC` FMOV FRm, FRn | DRm, DRn (R386). -/
  | fmov (m n : BitVec 4)
  /-- `Fnm6` FMOV.S @(R0,Rm), FRn | FMOV @(R0,Rm), DRn (R387). -/
  | fmovSAtR0RmFrn (m n : BitVec 4)
  /-- `Fnm7` FMOV.S FRm, @(R0,Rn) | FMOV DRm, @(R0,Rn) (R388). -/
  | fmovSFrmAtR0Rn (m n : BitVec 4)
  /-- `Fnm8` FMOV.S @Rm, FRn | FMOV @Rm, DRn (R387). -/
  | fmovSAtRmFrn (m n : BitVec 4)
  /-- `Fnm9` FMOV.S @Rm+, FRn | FMOV @Rm+, DRn (R387). -/
  | fmovSIncRmFrn (m n : BitVec 4)
  /-- `FnmA` FMOV.S FRm, @Rn | FMOV DRm, @Rn (R388). -/
  | fmovSFrmAtRn (m n : BitVec 4)
  /-- `FnmB` FMOV.S FRm, @-Rn | FMOV DRm, @-Rn (R388). -/
  | fmovSFrmDecRn (m n : BitVec 4)
  /-- `Fnm2` FMUL FRm, FRn | DRm, DRn (R389). -/
  | fmul (m n : BitVec 4)
  /-- `Fn4D` FNEG FRn | DRn (R390). -/
  | fneg (n : BitVec 4)
  /-- `Fn6D` FSQRT FRn | DRn (R391). -/
  | fsqrt (n : BitVec 4)
  /-- `Fnm1` FSUB FRm, FRn | DRm, DRn (R392). -/
  | fsub (m n : BitVec 4)
  /-- `FjDD` PSETMD4 #imm4 (R393). -/
  | psetmd4 (imm : BitVec 4)
  /-- `Fm3D` FTRC FRm | DRm, FPUL (R394). -/
  | ftrc (m : BitVec 4)
  /-- `4m71` LDHF16 Rm, FPUL (R395). -/
  | ldhf16RmFpul (m : BitVec 4)
  /-- `8Ejj-8Ajj` LDHF16 #imm16, FPUL (R395). -/
  | ldhf16Imm16Fpul (imm : BitVec 16)
  /-- `8Ejj-8Cjj` LDIF16 #imm16, FPUL (R396). -/
  | ldif16 (imm : BitVec 16)
  /-- `4n61` STHF16 FPUL, Rn (R397). -/
  | sthf16 (n : BitVec 4)
  deriving DecidableEq, Repr

end Sys2Proof
end

