-- ==== Sys2Proof/WellFormed.lean ====
section
/-!
DEFINITION. Sys2Proof/WellFormed.lean: the one restriction on operands that the types of Instr do not already make.
-/
namespace Sys2Proof

/-- What the encoding admits: `NOP #imm` takes a value from 1 to 14 (30_encoding.md R115, 45_int_system.md R339).
Every other operand field admits each value of its type. -/
def Instr.wellFormed : Instr → Bool
  | .nopImm imm => imm != 0x0#4 && imm != 0xF#4
  | .addRmRn .. => true
  | .addRmRnCe .. => true
  | .addImm8sRn .. => true
  | .addImm16sRn .. => true
  | .addImm16sRnHi .. => true
  | .addRmImm8Rn .. => true
  | .addRmImm6Rn .. => true
  | .addRmRoRn .. => true
  | .addcRmRn .. => true
  | .addcRmRnCe .. => true
  | .addv .. => true
  | .cmpEqRmRn .. => true
  | .cmpEqRmRnCe .. => true
  | .cmpEqImm8sR0 .. => true
  | .cmpEqImm12sRn .. => true
  | .cmpEqImm10sRn .. => true
  | .cmpGeImm12sRn .. => true
  | .cmpGeImm10sRn .. => true
  | .cmpGeRmRn .. => true
  | .cmpGtRmRn .. => true
  | .cmpGtImm12sRn .. => true
  | .cmpGtImm10sRn .. => true
  | .cmpGtRmRnCe .. => true
  | .cmpHiRmRn .. => true
  | .cmpHiImm12sRn .. => true
  | .cmpHiRmRnCe .. => true
  | .cmpHiImm10sRn .. => true
  | .cmpHsImm12sRn .. => true
  | .cmpHsRmRn .. => true
  | .cmpHsImm10sRn .. => true
  | .cmpPl .. => true
  | .cmpPz .. => true
  | .div0s => true
  | .div0u => true
  | .div1 => true
  | .dmulsL .. => true
  | .dmuluL .. => true
  | .dt .. => true
  | .ldsh16zImm16Rn .. => true
  | .ldsh16zImm16RnHi .. => true
  | .mulRmImm8Rn .. => true
  | .mulRmNegImm8Rn .. => true
  | .mulRmImm6Rn .. => true
  | .mulRmNegImm6Rn .. => true
  | .mulRmRoRn .. => true
  | .mulLRmRn .. => true
  | .mulLRmRnCe .. => true
  | .mulsW .. => true
  | .muluW .. => true
  | .negRmRn .. => true
  | .negRmRnCe .. => true
  | .negcRmRn .. => true
  | .negcRmRnCe .. => true
  | .subRmRn .. => true
  | .subRmRnCe .. => true
  | .subRmImm8Rn .. => true
  | .subRmImm6Rn .. => true
  | .subRmRoRn .. => true
  | .subc .. => true
  | .subv .. => true
  | .andRmRn .. => true
  | .andImm8R0 .. => true
  | .andImm12sRn .. => true
  | .andRmImm8Rn .. => true
  | .andRmImm6Rn .. => true
  | .andRmNegImm8Rn .. => true
  | .andRmNegImm6Rn .. => true
  | .andRmRoRn .. => true
  | .cselt .. => true
  | .extsBRn .. => true
  | .extsBRmRn .. => true
  | .extsBRmRnCe .. => true
  | .extsL .. => true
  | .extsWRn .. => true
  | .extsWRmRn .. => true
  | .extsWRmRnCe .. => true
  | .extuBRn .. => true
  | .extuBRmRn .. => true
  | .extuBRmRnCe .. => true
  | .extuLRn .. => true
  | .extuLRmRn .. => true
  | .extuWRn .. => true
  | .extuWRmRn .. => true
  | .extuWRmRnCe .. => true
  | .movRmRn .. => true
  | .movRmRnCe .. => true
  | .movImm8sRn .. => true
  | .movImm16sRn .. => true
  | .movImm16sRnHi .. => true
  | .movt .. => true
  | .notRmRn .. => true
  | .notRmRnCe .. => true
  | .orRmRn .. => true
  | .orRmRnCe .. => true
  | .orImm8R0 .. => true
  | .orImm12sRn .. => true
  | .orRmImm8Rn .. => true
  | .orRmImm6Rn .. => true
  | .orRmRoRn .. => true
  | .swapBRn .. => true
  | .swapBRmRn .. => true
  | .swapWRn .. => true
  | .swapWRmRn .. => true
  | .tstRmRn .. => true
  | .tstRmRnCe .. => true
  | .tstImm8R0 .. => true
  | .tstImm12sRn .. => true
  | .tstImm10sRn .. => true
  | .xorRmRn .. => true
  | .xorRmRnCe .. => true
  | .xorImm8R0 .. => true
  | .xorImm12sRn .. => true
  | .xorImm10sRn .. => true
  | .xorRmImm8Rn .. => true
  | .xorRmImm6Rn .. => true
  | .xorRmRoRn .. => true
  | .xtrctR4R0 => true
  | .xtrctR0R4 => true
  | .rot32 .. => true
  | .rotcl .. => true
  | .rotcr .. => true
  | .rotl .. => true
  | .rotr .. => true
  | .shadRmRn .. => true
  | .shadRmRnCe .. => true
  | .shadRmImmRn .. => true
  | .shadRmRoRn .. => true
  | .shadL .. => true
  | .shal .. => true
  | .shalQ .. => true
  | .sharRn .. => true
  | .sharQ .. => true
  | .sharRmRoRn .. => true
  | .shldRmRn .. => true
  | .shldRmImm8Rn .. => true
  | .shldRmImm6Rn .. => true
  | .shldRmRoRn .. => true
  | .shll .. => true
  | .shll2 .. => true
  | .shll4 .. => true
  | .shll8 .. => true
  | .shll16 .. => true
  | .shll32 .. => true
  | .shlrRn .. => true
  | .shlrQ .. => true
  | .shlrRmRoRn .. => true
  | .shlr2 .. => true
  | .shlr4 .. => true
  | .shlr8 .. => true
  | .shlr16 .. => true
  | .shlr32 .. => true
  | .casL => true
  | .leaBAtPcR0Rn .. => true
  | .leaBAtRmRoDisp4Rn .. => true
  | .leaBAtRmDisp8sRn .. => true
  | .leaBAtRmRoRn .. => true
  | .leaBAtRmDisp6Rn .. => true
  | .leaWAtRmRoDisp4Rn .. => true
  | .leaWAtRmDisp8sRn .. => true
  | .leaWAtRmRoRn .. => true
  | .leaWAtRmDisp6Rn .. => true
  | .leaLAtRmRoDisp4Rn .. => true
  | .leaLAtRmDisp8sRn .. => true
  | .leaLAtRmRoRn .. => true
  | .leaLAtRmDisp6Rn .. => true
  | .leaQAtRmRoDisp4Rn .. => true
  | .leaQAtRmDisp8sRn .. => true
  | .leaQAtRmRoRn .. => true
  | .leaQAtRmDisp6Rn .. => true
  | .movBRmAtR0Rn .. => true
  | .movBRmAtRn .. => true
  | .movBRmDecRn .. => true
  | .movBAtR0RmRn .. => true
  | .movBAtRmRn .. => true
  | .movBIncRmRn .. => true
  | .movBRmAtPcR0 .. => true
  | .movBAtPcR0Rn .. => true
  | .movBRmAtRnRoDisp4 .. => true
  | .movBRmAtRnDisp8s .. => true
  | .movBAtRmRoDisp4Rn .. => true
  | .movBAtRmDisp8sRn .. => true
  | .movBRmAtRnRo .. => true
  | .movBRmAtRnDisp6 .. => true
  | .movBAtRmRoRn .. => true
  | .movBAtRmDisp6Rn .. => true
  | .movLRmAtR0Rn .. => true
  | .movLRmAtRnDisp4 .. => true
  | .movLRmAtRn .. => true
  | .movLRmDecRn .. => true
  | .movLAtR0RmRn .. => true
  | .movLAtRmDisp4Rn .. => true
  | .movLAtRmRn .. => true
  | .movLIncRmRn .. => true
  | .movLAtPcDisp8Rn .. => true
  | .movLRmAtPcR0 .. => true
  | .movLAtPcR0Rn .. => true
  | .movLRmAtRnRoDisp4 .. => true
  | .movLRmAtRnRoDisp8s .. => true
  | .movLRmAtRnDisp8s .. => true
  | .movLAtRmRoDisp4Rn .. => true
  | .movLAtRmRoDisp8sRn .. => true
  | .movLAtRmDisp8sRn .. => true
  | .movLRmAtRnRo .. => true
  | .movLRmAtRnDisp6 .. => true
  | .movLAtRmRoRn .. => true
  | .movLAtRmDisp6Rn .. => true
  | .movQRmAtR0Rn .. => true
  | .movQAtR0RmRn .. => true
  | .movQRmAtRn .. => true
  | .movQRmDecRn .. => true
  | .movQRmAtPcR0 .. => true
  | .movQAtPcR0Rn .. => true
  | .movQAtRmRn .. => true
  | .movQIncRmRn .. => true
  | .movQRmAtSpDisp4 .. => true
  | .movQAtSpDisp4Rn .. => true
  | .movQRmAtRnRoDisp4 .. => true
  | .movQAtRmRoDisp4Rn .. => true
  | .movQRmAtRnDisp8s .. => true
  | .movQAtRmDisp8sRn .. => true
  | .movQRmAtRnRo .. => true
  | .movQAtRmRoRn .. => true
  | .movQRmAtRnDisp6 .. => true
  | .movQAtRmDisp6Rn .. => true
  | .movWRmAtR0Rn .. => true
  | .movWAtR0RmRn .. => true
  | .movWRmAtRn .. => true
  | .movWRmDecRn .. => true
  | .movWRmAtPcR0 .. => true
  | .movWAtPcR0Rn .. => true
  | .movWAtRmRn .. => true
  | .movWIncRmRn .. => true
  | .movWAtPcDisp8Rn .. => true
  | .movWRmAtRnRoDisp4 .. => true
  | .movWAtRmRoDisp4Rn .. => true
  | .movWRmAtRnDisp8s .. => true
  | .movWAtRmDisp8sRn .. => true
  | .movWRmAtRnRo .. => true
  | .movWRmAtRnDisp6 .. => true
  | .movWAtRmRoRn .. => true
  | .movWAtRmDisp6Rn .. => true
  | .mova .. => true
  | .movcaL .. => true
  | .movuBAtRmDisp8sRn .. => true
  | .movuBAtRmDisp6Rn .. => true
  | .movuWAtRmDisp8sRn .. => true
  | .movuWAtRmDisp6Rn .. => true
  | .movuLAtRmDisp8sRn .. => true
  | .movuLAtRmDisp6Rn .. => true
  | .popQRn .. => true
  | .popQRnHi .. => true
  | .pushQRm .. => true
  | .pushQRmHi .. => true
  | .bfLabel8s .. => true
  | .bfLabel16s .. => true
  | .bfSLabel8s .. => true
  | .bfSLabel16s .. => true
  | .bra .. => true
  | .braf .. => true
  | .braNLabel8s .. => true
  | .braNLabel16s .. => true
  | .bsr .. => true
  | .bsrf .. => true
  | .bsrN .. => true
  | .btLabel8s .. => true
  | .btLabel16s .. => true
  | .btSLabel8s .. => true
  | .btSLabel16s .. => true
  | .jmp .. => true
  | .jsr .. => true
  | .rts => true
  | .brk => true
  | .clrmac => true
  | .clrs => true
  | .clrt => true
  | .ldcRmSr .. => true
  | .ldcRmGbr .. => true
  | .ldcRmVbr .. => true
  | .ldcRmSsr .. => true
  | .ldcRmSpc .. => true
  | .ldcRmBank .. => true
  | .ldcRmDbr .. => true
  | .ldcLIncRmSr .. => true
  | .ldcLIncRmGbr .. => true
  | .ldcLIncRmVbr .. => true
  | .ldcLIncRmSsr .. => true
  | .ldcLIncRmSpc .. => true
  | .ldcLIncRmBank .. => true
  | .ldcLIncRmDbr .. => true
  | .ldsRmMach .. => true
  | .ldsRmMacl .. => true
  | .ldsRmPr .. => true
  | .ldsRmFpul .. => true
  | .ldsRmFpscr .. => true
  | .ldsLIncRmMach .. => true
  | .ldsLIncRmMacl .. => true
  | .ldsLIncRmPr .. => true
  | .ldsLIncRmFpul .. => true
  | .ldsLIncRmFpscr .. => true
  | .ldtlb => true
  | .nop => true
  | .rte => true
  | .sets => true
  | .sett => true
  | .sleep => true
  | .stcSrRn .. => true
  | .stcGbrRn .. => true
  | .stcVbrRn .. => true
  | .stcSsrRn .. => true
  | .stcSpcRn .. => true
  | .stcDbrRn .. => true
  | .stcBankRn .. => true
  | .stcLSrDecRn .. => true
  | .stcLGbrDecRn .. => true
  | .stcLVbrDecRn .. => true
  | .stcLSsrDecRn .. => true
  | .stcLSpcDecRn .. => true
  | .stcLDbrDecRn .. => true
  | .stcLBankDecRn .. => true
  | .stsMachRn .. => true
  | .stsMaclRn .. => true
  | .stsPrRn .. => true
  | .stsFpulRn .. => true
  | .stsFpscrRn .. => true
  | .stsLMachDecRn .. => true
  | .stsLMaclDecRn .. => true
  | .stsLPrDecRn .. => true
  | .stsLFpulDecRn .. => true
  | .stsLFpscrDecRn .. => true
  | .trapa .. => true
  | .fabs .. => true
  | .fadd .. => true
  | .fcmpeq .. => true
  | .fcmpgt .. => true
  | .fcnvds .. => true
  | .fcnvsd .. => true
  | .fdiv .. => true
  | .fipr .. => true
  | .fldi0 .. => true
  | .fldi1 .. => true
  | .flds .. => true
  | .float .. => true
  | .fmac .. => true
  | .fmov .. => true
  | .fmovSAtR0RmFrn .. => true
  | .fmovSFrmAtR0Rn .. => true
  | .fmovSAtRmFrn .. => true
  | .fmovSIncRmFrn .. => true
  | .fmovSFrmAtRn .. => true
  | .fmovSFrmDecRn .. => true
  | .fmul .. => true
  | .fneg .. => true
  | .fsqrt .. => true
  | .fsub .. => true
  | .psetmd4 .. => true
  | .ftrc .. => true
  | .ldhf16RmFpul .. => true
  | .ldhf16Imm16Fpul .. => true
  | .ldif16 .. => true
  | .sthf16 .. => true

end Sys2Proof
end

