-- ==== Sys2Proof/Decode.lean ====
section
/-!
DEFINITION. Sys2Proof/Decode.lean: the decoder, total on any bytes, and after it the encoder, both written from the
nibble patterns of the opcode table (30_encoding.md R90 to R101, R113, R114). The section is noncomputable because Lean's
runtime has no tag for the 246th constructor of a type and later ones; the kernel evaluates it as any other (log 50). An instruction word is `abcd`, a prefix is
`8Eyz` or `CEyz`, each letter one nibble, leftmost most significant (R91).
-/
namespace Sys2Proof

noncomputable section

/-! ## Fields -/

/-- The `q` bit of an `e` or `qnii` nibble, its bit 3 (30_encoding.md R94, R95). -/
def eQ (y : Nibble) : Bool := y.getLsbD 3
/-- Bit 4 of Rn in an `e` or `qnii` nibble, its bit 2 (30_encoding.md R94, R95). -/
def eN (y : Nibble) : Bool := y.getLsbD 2
/-- Bit 4 of Rm in an `e` nibble, its bit 1 (30_encoding.md R94). -/
def eM (y : Nibble) : Bool := y.getLsbD 1
/-- Bit 4 of Ro in an `e` nibble, its bit 0 (30_encoding.md R94). -/
def eO (y : Nibble) : Bool := y.getLsbD 0
/-- Bit 4 of Rn in an `f` nibble read as `nmii`, its bit 3 (30_encoding.md R95). -/
def fN (y : Nibble) : Bool := y.getLsbD 3
/-- Bit 4 of Rm in an `f` nibble read as `nmii`, its bit 2 (30_encoding.md R95). -/
def fM (y : Nibble) : Bool := y.getLsbD 2
/-- The two immediate bits of an `f` nibble (30_encoding.md R95). -/
def fI (y : Nibble) : BitVec 2 := y.extractLsb' 0 2

/-- A 5-bit register number from its bit 4 and its nibble (30_encoding.md R94). -/
def mkReg (bit4 : Bool) (low : Nibble) : BitVec 5 := BitVec.ofBool bit4 ++ low
/-- Bit 4 of a register number. -/
def bit4 (r : BitVec 5) : Bool := r.getLsbD 4
/-- The nibble of a register number. -/
def low4 (r : BitVec 5) : Nibble := r.setWidth 4

/-- The `e` nibble `qnmo` (30_encoding.md R94). -/
def mkE (q n m o : Bool) : Nibble :=
  BitVec.ofBool q ++ (BitVec.ofBool n ++ (BitVec.ofBool m ++ BitVec.ofBool o))
/-- The `f` nibble `nmii` (30_encoding.md R95). -/
def mkF (n m : Bool) (ii : BitVec 2) : Nibble := BitVec.ofBool n ++ (BitVec.ofBool m ++ ii)
/-- The `f` nibble `qnii` (30_encoding.md R95). -/
def mkQ (q n : Bool) (ii : BitVec 2) : Nibble := BitVec.ofBool q ++ (BitVec.ofBool n ++ ii)

/-- Whether an `M` or `N` nibble names a banked register, `1bbb` (30_encoding.md R96). -/
def isBank (c : Nibble) : Bool := c.getLsbD 3
/-- The banked register of an `M` or `N` nibble (30_encoding.md R96). -/
def bankOf (c : Nibble) : BitVec 3 := c.setWidth 3
/-- The nibble `1bbb` of a banked register (30_encoding.md R96). -/
def mkBank (b : BitVec 3) : Nibble := 1#1 ++ b

/-- Vector n of the FIPR nibble, its bits 3:2 (46_fpu.md R380). -/
def vecN (b : Nibble) : BitVec 2 := b.extractLsb' 2 2
/-- Vector m of the FIPR nibble, its bits 1:0 (46_fpu.md R380). -/
def vecM (b : Nibble) : BitVec 2 := b.extractLsb' 0 2
/-- The FIPR nibble (46_fpu.md R380). -/
def mkVec (vn vm : BitVec 2) : Nibble := vn ++ vm

/-- An 8-bit field of two nibbles, the left one most significant (30_encoding.md R101). -/
def nn2 (a b : Nibble) : BitVec 8 := a ++ b
/-- A 12-bit field of three nibbles (30_encoding.md R101). -/
def nn3 (a b c : Nibble) : BitVec 12 := a ++ nn2 b c
/-- A 16-bit field of four nibbles (30_encoding.md R101). -/
def nn4 (a b c d : Nibble) : BitVec 16 := a ++ nn3 b c d
/-- A 6-bit field: the `ii` bits of `f`, then a nibble (30_encoding.md R101). -/
def f6 (y z : Nibble) : BitVec 6 := fI y ++ z
/-- A 10-bit field: the `ii` bits of `f`, then two nibbles (30_encoding.md R101). -/
def f10 (y z c : Nibble) : BitVec 10 := fI y ++ nn2 z c
/-- Nibble 0 of a field, the least significant. -/
def nib0 {w : Nat} (v : BitVec w) : Nibble := v.extractLsb' 0 4
/-- Nibble 1 of a field. -/
def nib1 {w : Nat} (v : BitVec w) : Nibble := v.extractLsb' 4 4
/-- Nibble 2 of a field. -/
def nib2 {w : Nat} (v : BitVec w) : Nibble := v.extractLsb' 8 4
/-- Nibble 3 of a field. -/
def nib3 {w : Nat} (v : BitVec w) : Nibble := v.extractLsb' 12 4
/-- The two high bits of a 6-bit immediate, which stand in the `f` nibble. -/
def imm6Hi (v : BitVec 6) : BitVec 2 := v.extractLsb' 4 2
/-- The two high bits of a 10-bit immediate, which stand in the `qnii` nibble. -/
def imm10Hi (v : BitVec 10) : BitVec 2 := v.extractLsb' 8 2

/-- An instruction word from its four nibbles (30_encoding.md R91). -/
def word (a b c d : Nibble) : Word := nn4 a b c d

/-! ## The decoder -/

/-- The 16-bit forms `0` … `2`. -/
def decode16Group0Low2 (b c : Nibble) : Option Instr :=
  if isBank c then some (.stcBankRn (bankOf c) b)
  else if c = 0x0#4 then some (.stcSrRn b)
  else if c = 0x1#4 then some (.stcGbrRn b)
  else if c = 0x2#4 then some (.stcVbrRn b)
  else if c = 0x3#4 then some (.stcSsrRn b)
  else if c = 0x4#4 then some (.stcSpcRn b)
  else none

/-- The 16-bit forms `0` … `3`. -/
def decode16Group0Low3 (b c : Nibble) : Option Instr :=
  if c = 0x0#4 then some (.bsrf b)
  else if c = 0x2#4 then some (.braf b)
  else if c = 0xC#4 then some (.movcaL b)
  else none

/-- The 16-bit forms `0` … `8`. -/
def decode16Group0Low8 (b c : Nibble) : Option Instr :=
  if c = 0x0#4 then
    if b = 0x0#4 then some .clrt
    else none
  else if c = 0x1#4 then
    if b = 0x0#4 then some .sett
    else none
  else if c = 0x2#4 then
    if b = 0x0#4 then some .clrmac
    else none
  else if c = 0x3#4 then
    if b = 0x0#4 then some .ldtlb
    else none
  else if c = 0x4#4 then
    if b = 0x0#4 then some .clrs
    else none
  else if c = 0x5#4 then
    if b = 0x0#4 then some .sets
    else none
  else if c = 0xF#4 then
    if b = 0x4#4 then some .div1
    else if b = 0x5#4 then some .div0s
    else if b = 0x6#4 then some .casL
    else if b = 0x8#4 then some .xtrctR4R0
    else if b = 0x9#4 then some .xtrctR0R4
    else none
  else none

/-- The 16-bit forms `0` … `9`. -/
def decode16Group0Low9 (b c : Nibble) : Option Instr :=
  if c = 0x0#4 then if b = 0x0#4 then some .nop else if b = 0xF#4 then none else some (.nopImm b)
  else if c = 0x1#4 then
    if b = 0x0#4 then some .div0u
    else none
  else if c = 0x2#4 then some (.movt b)
  else none

/-- The 16-bit forms `0` … `A`. -/
def decode16Group0LowA (b c : Nibble) : Option Instr :=
  if c = 0x0#4 then some (.stsMachRn b)
  else if c = 0x1#4 then some (.stsMaclRn b)
  else if c = 0x2#4 then some (.stsPrRn b)
  else if c = 0x5#4 then some (.stsFpulRn b)
  else if c = 0x6#4 then some (.stsFpscrRn b)
  else if c = 0xF#4 then some (.stcDbrRn b)
  else none

/-- The 16-bit forms `0` … `B`. -/
def decode16Group0LowB (b c : Nibble) : Option Instr :=
  if c = 0x0#4 then
    if b = 0x0#4 then some .rts
    else none
  else if c = 0x1#4 then
    if b = 0x0#4 then some .sleep
    else none
  else if c = 0x2#4 then
    if b = 0x0#4 then some .rte
    else none
  else if c = 0x3#4 then
    if b = 0x0#4 then some .brk
    else none
  else none

/-- The 16-bit forms whose word begins with nibble 0. -/
def decode16Group0 (b c d : Nibble) : Option Instr :=
  if d = 0x2#4 then decode16Group0Low2 b c
  else if d = 0x3#4 then decode16Group0Low3 b c
  else if d = 0x4#4 then some (.movBRmAtR0Rn c b)
  else if d = 0x5#4 then some (.movWRmAtR0Rn c b)
  else if d = 0x6#4 then some (.movLRmAtR0Rn c b)
  else if d = 0x7#4 then some (.movQRmAtR0Rn c b)
  else if d = 0x8#4 then decode16Group0Low8 b c
  else if d = 0x9#4 then decode16Group0Low9 b c
  else if d = 0xA#4 then decode16Group0LowA b c
  else if d = 0xB#4 then decode16Group0LowB b c
  else if d = 0xC#4 then some (.movBAtR0RmRn c b)
  else if d = 0xD#4 then some (.movWAtR0RmRn c b)
  else if d = 0xE#4 then some (.movLAtR0RmRn c b)
  else if d = 0xF#4 then some (.movQAtR0RmRn c b)
  else none

/-- The 16-bit forms whose word begins with nibble 1. -/
def decode16Group1 (b c d : Nibble) : Option Instr :=
  some (.movLRmAtRnDisp4 c b d)

/-- The 16-bit forms whose word begins with nibble 2. -/
def decode16Group2 (b c d : Nibble) : Option Instr :=
  if d = 0x0#4 then some (.movBRmAtRn c b)
  else if d = 0x1#4 then some (.movWRmAtRn c b)
  else if d = 0x2#4 then some (.movLRmAtRn c b)
  else if d = 0x3#4 then some (.movQRmAtRn c b)
  else if d = 0x4#4 then some (.movBRmDecRn c b)
  else if d = 0x5#4 then some (.movWRmDecRn c b)
  else if d = 0x6#4 then some (.movLRmDecRn c b)
  else if d = 0x7#4 then some (.movQRmDecRn c b)
  else if d = 0x8#4 then some (.tstRmRn c b)
  else if d = 0x9#4 then some (.andRmRn c b)
  else if d = 0xA#4 then some (.xorRmRn c b)
  else if d = 0xB#4 then some (.orRmRn c b)
  else if d = 0xD#4 then some (.mulLRmRn c b)
  else if d = 0xE#4 then some (.muluW c b)
  else if d = 0xF#4 then some (.mulsW c b)
  else none

/-- The 16-bit forms whose word begins with nibble 3. -/
def decode16Group3 (b c d : Nibble) : Option Instr :=
  if d = 0x0#4 then some (.cmpEqRmRn c b)
  else if d = 0x5#4 then some (.dmuluL c b)
  else if d = 0x6#4 then some (.cmpHiRmRn c b)
  else if d = 0x7#4 then some (.cmpGtRmRn c b)
  else if d = 0x8#4 then some (.subRmRn c b)
  else if d = 0xA#4 then some (.subc c b)
  else if d = 0xB#4 then some (.notRmRn c b)
  else if d = 0xC#4 then some (.addRmRn c b)
  else if d = 0xD#4 then some (.dmulsL c b)
  else if d = 0xE#4 then some (.addcRmRn c b)
  else none

/-- The 16-bit forms `4` … `0`. -/
def decode16Group4Low0 (b c : Nibble) : Option Instr :=
  if c = 0x0#4 then some (.shll b)
  else if c = 0x1#4 then some (.dt b)
  else if c = 0x2#4 then some (.shal b)
  else if c = 0x4#4 then some (.extuBRn b)
  else if c = 0x5#4 then some (.extsBRn b)
  else none

/-- The 16-bit forms `4` … `1`. -/
def decode16Group4Low1 (b c : Nibble) : Option Instr :=
  if c = 0x0#4 then some (.shlrRn b)
  else if c = 0x1#4 then some (.cmpPz b)
  else if c = 0x2#4 then some (.sharRn b)
  else if c = 0x4#4 then some (.extuWRn b)
  else if c = 0x5#4 then some (.extsWRn b)
  else if c = 0x6#4 then some (.sthf16 b)
  else if c = 0x7#4 then some (.ldhf16RmFpul b)
  else if c = 0xA#4 then some (.movQRmAtPcR0 b)
  else if c = 0xC#4 then some (.movBRmAtPcR0 b)
  else if c = 0xD#4 then some (.movWRmAtPcR0 b)
  else if c = 0xE#4 then some (.movLRmAtPcR0 b)
  else none

/-- The 16-bit forms `4` … `2`. -/
def decode16Group4Low2 (b c : Nibble) : Option Instr :=
  if c = 0x0#4 then some (.stsLMachDecRn b)
  else if c = 0x1#4 then some (.stsLMaclDecRn b)
  else if c = 0x2#4 then some (.stsLPrDecRn b)
  else if c = 0x5#4 then some (.stsLFpulDecRn b)
  else if c = 0x6#4 then some (.stsLFpscrDecRn b)
  else if c = 0xF#4 then some (.stcLDbrDecRn b)
  else none

/-- The 16-bit forms `4` … `3`. -/
def decode16Group4Low3 (b c : Nibble) : Option Instr :=
  if isBank c then some (.stcLBankDecRn (bankOf c) b)
  else if c = 0x0#4 then some (.stcLSrDecRn b)
  else if c = 0x1#4 then some (.stcLGbrDecRn b)
  else if c = 0x2#4 then some (.stcLVbrDecRn b)
  else if c = 0x3#4 then some (.stcLSsrDecRn b)
  else if c = 0x4#4 then some (.stcLSpcDecRn b)
  else none

/-- The 16-bit forms `4` … `4`. -/
def decode16Group4Low4 (b c : Nibble) : Option Instr :=
  if c = 0x0#4 then some (.rotl b)
  else if c = 0x1#4 then some (.rot32 b)
  else if c = 0x2#4 then some (.rotcl b)
  else if c = 0x3#4 then some (.shll4 b)
  else if c = 0x4#4 then some (.extuLRn b)
  else if c = 0x5#4 then some (.extsL b)
  else none

/-- The 16-bit forms `4` … `5`. -/
def decode16Group4Low5 (b c : Nibble) : Option Instr :=
  if c = 0x0#4 then some (.rotr b)
  else if c = 0x1#4 then some (.cmpPl b)
  else if c = 0x2#4 then some (.rotcr b)
  else if c = 0x3#4 then some (.shlr4 b)
  else if c = 0xA#4 then some (.movQAtPcR0Rn b)
  else if c = 0xC#4 then some (.movBAtPcR0Rn b)
  else if c = 0xD#4 then some (.movWAtPcR0Rn b)
  else if c = 0xE#4 then some (.movLAtPcR0Rn b)
  else if c = 0xF#4 then some (.leaBAtPcR0Rn b)
  else none

/-- The 16-bit forms `4` … `6`. -/
def decode16Group4Low6 (b c : Nibble) : Option Instr :=
  if c = 0x0#4 then some (.ldsLIncRmMach b)
  else if c = 0x1#4 then some (.ldsLIncRmMacl b)
  else if c = 0x2#4 then some (.ldsLIncRmPr b)
  else if c = 0x5#4 then some (.ldsLIncRmFpul b)
  else if c = 0x6#4 then some (.ldsLIncRmFpscr b)
  else if c = 0xF#4 then some (.ldcLIncRmDbr b)
  else none

/-- The 16-bit forms `4` … `7`. -/
def decode16Group4Low7 (b c : Nibble) : Option Instr :=
  if isBank c then some (.ldcLIncRmBank b (bankOf c))
  else if c = 0x0#4 then some (.ldcLIncRmSr b)
  else if c = 0x1#4 then some (.ldcLIncRmGbr b)
  else if c = 0x2#4 then some (.ldcLIncRmVbr b)
  else if c = 0x3#4 then some (.ldcLIncRmSsr b)
  else if c = 0x4#4 then some (.ldcLIncRmSpc b)
  else none

/-- The 16-bit forms `4` … `8`. -/
def decode16Group4Low8 (b c : Nibble) : Option Instr :=
  if c = 0x0#4 then some (.shll2 b)
  else if c = 0x1#4 then some (.shll8 b)
  else if c = 0x2#4 then some (.shll16 b)
  else if c = 0x3#4 then some (.shll32 b)
  else if c = 0x4#4 then some (.pushQRm b)
  else if c = 0x5#4 then some (.popQRn b)
  else if c = 0x6#4 then some (.pushQRmHi b)
  else if c = 0x7#4 then some (.popQRnHi b)
  else none

/-- The 16-bit forms `4` … `9`. -/
def decode16Group4Low9 (b c : Nibble) : Option Instr :=
  if c = 0x0#4 then some (.shlr2 b)
  else if c = 0x1#4 then some (.shlr8 b)
  else if c = 0x2#4 then some (.shlr16 b)
  else if c = 0x3#4 then some (.shlr32 b)
  else if c = 0x4#4 then some (.swapBRn b)
  else if c = 0x5#4 then some (.swapWRn b)
  else none

/-- The 16-bit forms `4` … `A`. -/
def decode16Group4LowA (b c : Nibble) : Option Instr :=
  if c = 0x0#4 then some (.ldsRmMach b)
  else if c = 0x1#4 then some (.ldsRmMacl b)
  else if c = 0x2#4 then some (.ldsRmPr b)
  else if c = 0x5#4 then some (.ldsRmFpul b)
  else if c = 0x6#4 then some (.ldsRmFpscr b)
  else if c = 0xF#4 then some (.ldcRmDbr b)
  else none

/-- The 16-bit forms `4` … `B`. -/
def decode16Group4LowB (b c : Nibble) : Option Instr :=
  if c = 0x0#4 then some (.jsr b)
  else if c = 0x2#4 then some (.jmp b)
  else none

/-- The 16-bit forms `4` … `E`. -/
def decode16Group4LowE (b c : Nibble) : Option Instr :=
  if isBank c then some (.ldcRmBank b (bankOf c))
  else if c = 0x0#4 then some (.ldcRmSr b)
  else if c = 0x1#4 then some (.ldcRmGbr b)
  else if c = 0x2#4 then some (.ldcRmVbr b)
  else if c = 0x3#4 then some (.ldcRmSsr b)
  else if c = 0x4#4 then some (.ldcRmSpc b)
  else none

/-- The 16-bit forms whose word begins with nibble 4. -/
def decode16Group4 (b c d : Nibble) : Option Instr :=
  if d = 0x0#4 then decode16Group4Low0 b c
  else if d = 0x1#4 then decode16Group4Low1 b c
  else if d = 0x2#4 then decode16Group4Low2 b c
  else if d = 0x3#4 then decode16Group4Low3 b c
  else if d = 0x4#4 then decode16Group4Low4 b c
  else if d = 0x5#4 then decode16Group4Low5 b c
  else if d = 0x6#4 then decode16Group4Low6 b c
  else if d = 0x7#4 then decode16Group4Low7 b c
  else if d = 0x8#4 then decode16Group4Low8 b c
  else if d = 0x9#4 then decode16Group4Low9 b c
  else if d = 0xA#4 then decode16Group4LowA b c
  else if d = 0xB#4 then decode16Group4LowB b c
  else if d = 0xC#4 then some (.shadRmRn c b)
  else if d = 0xD#4 then some (.shldRmRn c b)
  else if d = 0xE#4 then decode16Group4LowE b c
  else if d = 0xF#4 then some (.movRmRn c b)
  else none

/-- The 16-bit forms whose word begins with nibble 5. -/
def decode16Group5 (b c d : Nibble) : Option Instr :=
  some (.movLAtRmDisp4Rn c d b)

/-- The 16-bit forms whose word begins with nibble 6. -/
def decode16Group6 (b c d : Nibble) : Option Instr :=
  if d = 0x0#4 then some (.movBAtRmRn c b)
  else if d = 0x1#4 then some (.movWAtRmRn c b)
  else if d = 0x2#4 then some (.movLAtRmRn c b)
  else if d = 0x3#4 then some (.movQAtRmRn c b)
  else if d = 0x4#4 then some (.movBIncRmRn c b)
  else if d = 0x5#4 then some (.movWIncRmRn c b)
  else if d = 0x6#4 then some (.movLIncRmRn c b)
  else if d = 0x7#4 then some (.movQIncRmRn c b)
  else if d = 0xA#4 then some (.negcRmRn c b)
  else if d = 0xB#4 then some (.negRmRn c b)
  else if d = 0xC#4 then some (.extuBRmRn c b)
  else if d = 0xD#4 then some (.extuWRmRn c b)
  else if d = 0xE#4 then some (.extsBRmRn c b)
  else if d = 0xF#4 then some (.extsWRmRn c b)
  else none

/-- The 16-bit forms whose word begins with nibble 7. -/
def decode16Group7 (b c d : Nibble) : Option Instr :=
  some (.addImm8sRn (nn2 c d) b)

/-- The 16-bit forms whose word begins with nibble 8. -/
def decode16Group8 (b c d : Nibble) : Option Instr :=
  if b = 0x2#4 then some (.braNLabel8s (nn2 c d))
  else if b = 0x8#4 then some (.cmpEqImm8sR0 (nn2 c d))
  else if b = 0x9#4 then some (.btLabel8s (nn2 c d))
  else if b = 0xB#4 then some (.bfLabel8s (nn2 c d))
  else if b = 0xD#4 then some (.btSLabel8s (nn2 c d))
  else if b = 0xF#4 then some (.bfSLabel8s (nn2 c d))
  else none

/-- The 16-bit forms whose word begins with nibble 9. -/
def decode16Group9 (b c d : Nibble) : Option Instr :=
  some (.movWAtPcDisp8Rn (nn2 c d) b)

/-- The 16-bit forms whose word begins with nibble A. -/
def decode16GroupA (b c d : Nibble) : Option Instr :=
  some (.bra (nn3 b c d))

/-- The 16-bit forms whose word begins with nibble B. -/
def decode16GroupB (b c d : Nibble) : Option Instr :=
  some (.bsr (nn3 b c d))

/-- The 16-bit forms whose word begins with nibble C. -/
def decode16GroupC (b c d : Nibble) : Option Instr :=
  if b = 0x0#4 then some (.movQRmAtSpDisp4 c d)
  else if b = 0x3#4 then some (.trapa (nn2 c d))
  else if b = 0x4#4 then some (.movQAtSpDisp4Rn d c)
  else if b = 0x7#4 then some (.mova (nn2 c d))
  else if b = 0x8#4 then some (.tstImm8R0 (nn2 c d))
  else if b = 0x9#4 then some (.andImm8R0 (nn2 c d))
  else if b = 0xA#4 then some (.xorImm8R0 (nn2 c d))
  else if b = 0xB#4 then some (.orImm8R0 (nn2 c d))
  else none

/-- The 16-bit forms whose word begins with nibble D. -/
def decode16GroupD (b c d : Nibble) : Option Instr :=
  some (.movLAtPcDisp8Rn (nn2 c d) b)

/-- The 16-bit forms whose word begins with nibble E. -/
def decode16GroupE (b c d : Nibble) : Option Instr :=
  some (.movImm8sRn (nn2 c d) b)

/-- The 16-bit forms `F` … `D`. -/
def decode16GroupFLowD (b c : Nibble) : Option Instr :=
  if c = 0x1#4 then some (.flds b)
  else if c = 0x2#4 then some (.float b)
  else if c = 0x3#4 then some (.ftrc b)
  else if c = 0x4#4 then some (.fneg b)
  else if c = 0x5#4 then some (.fabs b)
  else if c = 0x6#4 then some (.fsqrt b)
  else if c = 0x8#4 then some (.fldi0 b)
  else if c = 0x9#4 then some (.fldi1 b)
  else if c = 0xA#4 then some (.fcnvsd b)
  else if c = 0xB#4 then some (.fcnvds b)
  else if c = 0xD#4 then some (.psetmd4 b)
  else if c = 0xE#4 then some (.fipr (vecM b) (vecN b))
  else none

/-- The 16-bit forms whose word begins with nibble F. -/
def decode16GroupF (b c d : Nibble) : Option Instr :=
  if d = 0x0#4 then some (.fadd c b)
  else if d = 0x1#4 then some (.fsub c b)
  else if d = 0x2#4 then some (.fmul c b)
  else if d = 0x3#4 then some (.fdiv c b)
  else if d = 0x4#4 then some (.fcmpeq c b)
  else if d = 0x5#4 then some (.fcmpgt c b)
  else if d = 0x6#4 then some (.fmovSAtR0RmFrn c b)
  else if d = 0x7#4 then some (.fmovSFrmAtR0Rn c b)
  else if d = 0x8#4 then some (.fmovSAtRmFrn c b)
  else if d = 0x9#4 then some (.fmovSIncRmFrn c b)
  else if d = 0xA#4 then some (.fmovSFrmAtRn c b)
  else if d = 0xB#4 then some (.fmovSFrmDecRn c b)
  else if d = 0xC#4 then some (.fmov c b)
  else if d = 0xD#4 then decode16GroupFLowD b c
  else if d = 0xE#4 then some (.fmac c b)
  else none

/-- The instruction of the 16-bit word `abcd`, if it is listed (30_encoding.md R113). -/
def decode16 (a b c d : Nibble) : Option Instr :=
  if a = 0x0#4 then decode16Group0 b c d
  else if a = 0x1#4 then decode16Group1 b c d
  else if a = 0x2#4 then decode16Group2 b c d
  else if a = 0x3#4 then decode16Group3 b c d
  else if a = 0x4#4 then decode16Group4 b c d
  else if a = 0x5#4 then decode16Group5 b c d
  else if a = 0x6#4 then decode16Group6 b c d
  else if a = 0x7#4 then decode16Group7 b c d
  else if a = 0x8#4 then decode16Group8 b c d
  else if a = 0x9#4 then decode16Group9 b c d
  else if a = 0xA#4 then decode16GroupA b c d
  else if a = 0xB#4 then decode16GroupB b c d
  else if a = 0xC#4 then decode16GroupC b c d
  else if a = 0xD#4 then decode16GroupD b c d
  else if a = 0xE#4 then decode16GroupE b c d
  else if a = 0xF#4 then decode16GroupF b c d
  else none

/-- The `8E` forms whose second word begins with nibble 0. -/
def decode8EGroup0 (y z b c d : Nibble) : Option Instr :=
  if d = 0x4#4 then some (.movBRmAtRnRoDisp4 c b y z)
  else if d = 0x5#4 then some (.movWRmAtRnRoDisp4 c b y z)
  else if d = 0x6#4 then some (.movLRmAtRnRoDisp4 c b y z)
  else if d = 0x7#4 then some (.movQRmAtRnRoDisp4 c b y z)
  else if d = 0xC#4 then some (.movBAtRmRoDisp4Rn c y z b)
  else if d = 0xD#4 then some (.movWAtRmRoDisp4Rn c y z b)
  else if d = 0xE#4 then some (.movLAtRmRoDisp4Rn c y z b)
  else if d = 0xF#4 then some (.movQAtRmRoDisp4Rn c y z b)
  else none

/-- The `8E` forms whose second word begins with nibble 1. -/
def decode8EGroup1 (y z b c d : Nibble) : Option Instr :=
  some (.movLRmAtRnRoDisp8s c b d (nn2 y z))

/-- The `8E` forms whose second word begins with nibble 2. -/
def decode8EGroup2 (y z b c d : Nibble) : Option Instr :=
  if d = 0x0#4 then some (.movBRmAtRnDisp8s c b (nn2 y z))
  else if d = 0x1#4 then some (.movWRmAtRnDisp8s c b (nn2 y z))
  else if d = 0x2#4 then some (.movLRmAtRnDisp8s c b (nn2 y z))
  else if d = 0x3#4 then some (.movQRmAtRnDisp8s c b (nn2 y z))
  else if d = 0x9#4 then some (.andRmImm8Rn c (nn2 y z) b)
  else if d = 0xA#4 then some (.xorRmImm8Rn c (nn2 y z) b)
  else if d = 0xB#4 then some (.orRmImm8Rn c (nn2 y z) b)
  else if d = 0xE#4 then some (.mulRmImm8Rn c (nn2 y z) b)
  else if d = 0xF#4 then some (.mulRmNegImm8Rn c (nn2 y z) b)
  else none

/-- The `8E` forms whose second word begins with nibble 3. -/
def decode8EGroup3 (y z b c d : Nibble) : Option Instr :=
  if d = 0x0#4 then some (.cmpEqImm12sRn (nn3 y z c) b)
  else if d = 0x2#4 then some (.cmpHsImm12sRn (nn3 y z c) b)
  else if d = 0x3#4 then some (.cmpGeImm12sRn (nn3 y z c) b)
  else if d = 0x6#4 then some (.cmpHiImm12sRn (nn3 y z c) b)
  else if d = 0x7#4 then some (.cmpGtImm12sRn (nn3 y z c) b)
  else if d = 0x8#4 then some (.subRmImm8Rn c (nn2 y z) b)
  else if d = 0x9#4 then some (.andRmNegImm8Rn c (nn2 y z) b)
  else if d = 0xC#4 then some (.addRmImm8Rn c (nn2 y z) b)
  else none

/-- The `8E` forms whose second word begins with nibble 4. -/
def decode8EGroup4 (y z b c d : Nibble) : Option Instr :=
  if d = 0xC#4 then some (.shadRmImmRn c (nn2 y z) b)
  else if d = 0xD#4 then some (.shldRmImm8Rn c (nn2 y z) b)
  else none

/-- The `8E` forms whose second word begins with nibble 5. -/
def decode8EGroup5 (y z b c d : Nibble) : Option Instr :=
  some (.movLAtRmRoDisp8sRn c d (nn2 y z) b)

/-- The `8E` forms whose second word begins with nibble 6. -/
def decode8EGroup6 (y z b c d : Nibble) : Option Instr :=
  if d = 0x0#4 then some (.movBAtRmDisp8sRn c (nn2 y z) b)
  else if d = 0x1#4 then some (.movWAtRmDisp8sRn c (nn2 y z) b)
  else if d = 0x2#4 then some (.movLAtRmDisp8sRn c (nn2 y z) b)
  else if d = 0x3#4 then some (.movQAtRmDisp8sRn c (nn2 y z) b)
  else if d = 0x4#4 then some (.leaBAtRmRoDisp4Rn c y z b)
  else if d = 0x5#4 then some (.leaWAtRmRoDisp4Rn c y z b)
  else if d = 0x6#4 then some (.leaLAtRmRoDisp4Rn c y z b)
  else if d = 0x7#4 then some (.leaQAtRmRoDisp4Rn c y z b)
  else if d = 0x8#4 then some (.leaBAtRmDisp8sRn c (nn2 y z) b)
  else if d = 0x9#4 then some (.leaWAtRmDisp8sRn c (nn2 y z) b)
  else if d = 0xA#4 then some (.leaLAtRmDisp8sRn c (nn2 y z) b)
  else if d = 0xB#4 then some (.leaQAtRmDisp8sRn c (nn2 y z) b)
  else if d = 0xC#4 then some (.movuBAtRmDisp8sRn c (nn2 y z) b)
  else if d = 0xD#4 then some (.movuWAtRmDisp8sRn c (nn2 y z) b)
  else if d = 0xE#4 then some (.movuLAtRmDisp8sRn c (nn2 y z) b)
  else none

/-- The `8E` forms whose second word begins with nibble 7. -/
def decode8EGroup7 (y z b c d : Nibble) : Option Instr :=
  some (.addImm16sRn (nn4 y z c d) b)

/-- The `8E` forms whose second word begins with nibble 8. -/
def decode8EGroup8 (y z b c d : Nibble) : Option Instr :=
  if b = 0x2#4 then some (.braNLabel16s (nn4 y z c d))
  else if b = 0x3#4 then some (.bsrN (nn4 y z c d))
  else if b = 0x9#4 then some (.btLabel16s (nn4 y z c d))
  else if b = 0xA#4 then some (.ldhf16Imm16Fpul (nn4 y z c d))
  else if b = 0xB#4 then some (.bfLabel16s (nn4 y z c d))
  else if b = 0xC#4 then some (.ldif16 (nn4 y z c d))
  else if b = 0xD#4 then some (.btSLabel16s (nn4 y z c d))
  else if b = 0xF#4 then some (.bfSLabel16s (nn4 y z c d))
  else none

/-- The `8E` forms whose second word begins with nibble 9. -/
def decode8EGroup9 (y z b c d : Nibble) : Option Instr :=
  some (.ldsh16zImm16Rn (nn4 y z c d) b)

/-- The `8E` forms whose second word begins with nibble C. -/
def decode8EGroupC (y z b c d : Nibble) : Option Instr :=
  if b = 0x8#4 then some (.tstImm12sRn (nn3 y z d) c)
  else if b = 0x9#4 then some (.andImm12sRn (nn3 y z d) c)
  else if b = 0xA#4 then some (.xorImm12sRn (nn3 y z d) c)
  else if b = 0xB#4 then some (.orImm12sRn (nn3 y z d) c)
  else none

/-- The `8E` forms whose second word begins with nibble E. -/
def decode8EGroupE (y z b c d : Nibble) : Option Instr :=
  some (.movImm16sRn (nn4 y z c d) b)

/-- The instruction of the 32-bit value `8Eyz-abcd`, if it is listed (30_encoding.md R113). -/
def decode8E (y z a b c d : Nibble) : Option Instr :=
  if a = 0x0#4 then decode8EGroup0 y z b c d
  else if a = 0x1#4 then decode8EGroup1 y z b c d
  else if a = 0x2#4 then decode8EGroup2 y z b c d
  else if a = 0x3#4 then decode8EGroup3 y z b c d
  else if a = 0x4#4 then decode8EGroup4 y z b c d
  else if a = 0x5#4 then decode8EGroup5 y z b c d
  else if a = 0x6#4 then decode8EGroup6 y z b c d
  else if a = 0x7#4 then decode8EGroup7 y z b c d
  else if a = 0x8#4 then decode8EGroup8 y z b c d
  else if a = 0x9#4 then decode8EGroup9 y z b c d
  else if a = 0xC#4 then decode8EGroupC y z b c d
  else if a = 0xE#4 then decode8EGroupE y z b c d
  else none

/-- The `CE` forms whose second word begins with nibble 0. -/
def decodeCEGroup0 (y z b c d : Nibble) : Option Instr :=
  if d = 0x4#4 then
    if eQ y then none else some (.movBRmAtRnRo (mkReg (eM y) c) (mkReg (eN y) b) (mkReg (eO y) z))
  else if d = 0x5#4 then
    if eQ y then none else some (.movWRmAtRnRo (mkReg (eM y) c) (mkReg (eN y) b) (mkReg (eO y) z))
  else if d = 0x6#4 then
    if eQ y then none else some (.movLRmAtRnRo (mkReg (eM y) c) (mkReg (eN y) b) (mkReg (eO y) z))
  else if d = 0x7#4 then
    if eQ y then none else some (.movQRmAtRnRo (mkReg (eM y) c) (mkReg (eN y) b) (mkReg (eO y) z))
  else if d = 0xC#4 then
    if eQ y then none else some (.movBAtRmRoRn (mkReg (eM y) c) (mkReg (eO y) z) (mkReg (eN y) b))
  else if d = 0xD#4 then
    if eQ y then none else some (.movWAtRmRoRn (mkReg (eM y) c) (mkReg (eO y) z) (mkReg (eN y) b))
  else if d = 0xE#4 then
    if eQ y then none else some (.movLAtRmRoRn (mkReg (eM y) c) (mkReg (eO y) z) (mkReg (eN y) b))
  else if d = 0xF#4 then
    if eQ y then none else some (.movQAtRmRoRn (mkReg (eM y) c) (mkReg (eO y) z) (mkReg (eN y) b))
  else none

/-- The `CE` forms whose second word begins with nibble 2. -/
def decodeCEGroup2 (y z b c d : Nibble) : Option Instr :=
  if d = 0x0#4 then some (.movBRmAtRnDisp6 (mkReg (fM y) c) (mkReg (fN y) b) (f6 y z))
  else if d = 0x1#4 then some (.movWRmAtRnDisp6 (mkReg (fM y) c) (mkReg (fN y) b) (f6 y z))
  else if d = 0x2#4 then some (.movLRmAtRnDisp6 (mkReg (fM y) c) (mkReg (fN y) b) (f6 y z))
  else if d = 0x3#4 then some (.movQRmAtRnDisp6 (mkReg (fM y) c) (mkReg (fN y) b) (f6 y z))
  else if d = 0x9#4 then some (.andRmImm6Rn (mkReg (fM y) c) (f6 y z) (mkReg (fN y) b))
  else if d = 0xA#4 then some (.xorRmImm6Rn (mkReg (fM y) c) (f6 y z) (mkReg (fN y) b))
  else if d = 0xB#4 then some (.orRmImm6Rn (mkReg (fM y) c) (f6 y z) (mkReg (fN y) b))
  else if d = 0xE#4 then some (.mulRmImm6Rn (mkReg (fM y) c) (f6 y z) (mkReg (fN y) b))
  else if d = 0xF#4 then some (.mulRmNegImm6Rn (mkReg (fM y) c) (f6 y z) (mkReg (fN y) b))
  else none

/-- The `CE` forms `3` … `F`. -/
def decodeCEGroup3LowF (y z b c : Nibble) : Option Instr :=
  if z = 0x0#4 then if eO y then none else some (.cmpEqRmRnCe (eQ y) (mkReg (eM y) c) (mkReg (eN y) b))
  else if z = 0x2#4 then if eO y then none else some (.cmpHsRmRn (eQ y) (mkReg (eM y) c) (mkReg (eN y) b))
  else if z = 0x3#4 then if eO y then none else some (.cmpGeRmRn (eQ y) (mkReg (eM y) c) (mkReg (eN y) b))
  else if z = 0x6#4 then if eO y then none else some (.cmpHiRmRnCe (eQ y) (mkReg (eM y) c) (mkReg (eN y) b))
  else if z = 0x7#4 then if eO y then none else some (.cmpGtRmRnCe (eQ y) (mkReg (eM y) c) (mkReg (eN y) b))
  else if z = 0x8#4 then if eO y then none else some (.subRmRnCe (eQ y) (mkReg (eM y) c) (mkReg (eN y) b))
  else if z = 0x9#4 then if eQ y || eO y then none else some (.mulLRmRnCe (mkReg (eM y) c) (mkReg (eN y) b))
  else if z = 0xB#4 then if eO y then none else some (.subv (eQ y) (mkReg (eM y) c) (mkReg (eN y) b))
  else if z = 0xC#4 then if eO y then none else some (.addRmRnCe (eQ y) (mkReg (eM y) c) (mkReg (eN y) b))
  else if z = 0xE#4 then if eO y then none else some (.addcRmRnCe (eQ y) (mkReg (eM y) c) (mkReg (eN y) b))
  else if z = 0xF#4 then if eO y then none else some (.addv (eQ y) (mkReg (eM y) c) (mkReg (eN y) b))
  else none

/-- The `CE` forms whose second word begins with nibble 3. -/
def decodeCEGroup3 (y z b c d : Nibble) : Option Instr :=
  if d = 0x0#4 then some (.cmpEqImm10sRn (eQ y) (f10 y z c) (mkReg (eN y) b))
  else if d = 0x2#4 then some (.cmpHsImm10sRn (eQ y) (f10 y z c) (mkReg (eN y) b))
  else if d = 0x3#4 then some (.cmpGeImm10sRn (eQ y) (f10 y z c) (mkReg (eN y) b))
  else if d = 0x6#4 then some (.cmpHiImm10sRn (eQ y) (f10 y z c) (mkReg (eN y) b))
  else if d = 0x7#4 then some (.cmpGtImm10sRn (eQ y) (f10 y z c) (mkReg (eN y) b))
  else if d = 0x8#4 then some (.subRmImm6Rn (mkReg (fM y) c) (f6 y z) (mkReg (fN y) b))
  else if d = 0x9#4 then some (.andRmNegImm6Rn (mkReg (fM y) c) (f6 y z) (mkReg (fN y) b))
  else if d = 0xA#4 then some (.sharQ (mkReg (fM y) c) (f6 y z) (mkReg (fN y) b))
  else if d = 0xB#4 then some (.shlrQ (mkReg (fM y) c) (f6 y z) (mkReg (fN y) b))
  else if d = 0xC#4 then some (.addRmImm6Rn (mkReg (fM y) c) (f6 y z) (mkReg (fN y) b))
  else if d = 0xD#4 then some (.shalQ (mkReg (fM y) c) (f6 y z) (mkReg (fN y) b))
  else if d = 0xF#4 then decodeCEGroup3LowF y z b c
  else none

/-- The `CE` forms whose second word begins with nibble 4. -/
def decodeCEGroup4 (y z b c d : Nibble) : Option Instr :=
  if d = 0xC#4 then some (.shadL (mkReg (fM y) c) (f6 y z) (mkReg (fN y) b))
  else if d = 0xD#4 then some (.shldRmImm6Rn (mkReg (fM y) c) (f6 y z) (mkReg (fN y) b))
  else if d = 0xF#4 then
    if z = 0x0#4 then if eQ y || eO y then none else some (.movRmRnCe (mkReg (eM y) c) (mkReg (eN y) b))
    else if z = 0x7#4 then if eO y then none else some (.notRmRnCe (eQ y) (mkReg (eM y) c) (mkReg (eN y) b))
    else if z = 0x8#4 then if eO y then none else some (.tstRmRnCe (eQ y) (mkReg (eM y) c) (mkReg (eN y) b))
    else if z = 0xA#4 then if eO y then none else some (.xorRmRnCe (eQ y) (mkReg (eM y) c) (mkReg (eN y) b))
    else if z = 0xB#4 then if eO y then none else some (.orRmRnCe (eQ y) (mkReg (eM y) c) (mkReg (eN y) b))
    else if z = 0xC#4 then if eO y then none else some (.shadRmRnCe (eQ y) (mkReg (eM y) c) (mkReg (eN y) b))
    else none
  else none

/-- The `CE` forms `6` … `F`. -/
def decodeCEGroup6LowF (y z b c : Nibble) : Option Instr :=
  if z = 0x8#4 then if eQ y || eO y then none else some (.swapBRmRn (mkReg (eM y) c) (mkReg (eN y) b))
  else if z = 0x9#4 then if eQ y || eO y then none else some (.swapWRmRn (mkReg (eM y) c) (mkReg (eN y) b))
  else if z = 0xA#4 then if eO y then none else some (.negcRmRnCe (eQ y) (mkReg (eM y) c) (mkReg (eN y) b))
  else if z = 0xB#4 then if eO y then none else some (.negRmRnCe (eQ y) (mkReg (eM y) c) (mkReg (eN y) b))
  else if z = 0xC#4 then if eQ y || eO y then none else some (.extuBRmRnCe (mkReg (eM y) c) (mkReg (eN y) b))
  else if z = 0xD#4 then
    if eQ y then none else if eO y then some (.extuLRmRn (mkReg (eM y) c) (mkReg (eN y) b)) else some (.extuWRmRnCe (mkReg (eM y) c) (mkReg (eN y) b))
  else if z = 0xE#4 then if eQ y || eO y then none else some (.extsBRmRnCe (mkReg (eM y) c) (mkReg (eN y) b))
  else if z = 0xF#4 then if eQ y || eO y then none else some (.extsWRmRnCe (mkReg (eM y) c) (mkReg (eN y) b))
  else none

/-- The `CE` forms whose second word begins with nibble 6. -/
def decodeCEGroup6 (y z b c d : Nibble) : Option Instr :=
  if d = 0x0#4 then some (.movBAtRmDisp6Rn (mkReg (fM y) c) (f6 y z) (mkReg (fN y) b))
  else if d = 0x1#4 then some (.movWAtRmDisp6Rn (mkReg (fM y) c) (f6 y z) (mkReg (fN y) b))
  else if d = 0x2#4 then some (.movLAtRmDisp6Rn (mkReg (fM y) c) (f6 y z) (mkReg (fN y) b))
  else if d = 0x3#4 then some (.movQAtRmDisp6Rn (mkReg (fM y) c) (f6 y z) (mkReg (fN y) b))
  else if d = 0x4#4 then if fI y != 0#2 then none else some (.leaBAtRmRoRn (mkReg (fM y) c) z (mkReg (fN y) b))
  else if d = 0x5#4 then if fI y != 0#2 then none else some (.leaWAtRmRoRn (mkReg (fM y) c) z (mkReg (fN y) b))
  else if d = 0x6#4 then if fI y != 0#2 then none else some (.leaLAtRmRoRn (mkReg (fM y) c) z (mkReg (fN y) b))
  else if d = 0x7#4 then if fI y != 0#2 then none else some (.leaQAtRmRoRn (mkReg (fM y) c) z (mkReg (fN y) b))
  else if d = 0x8#4 then some (.leaBAtRmDisp6Rn (mkReg (fM y) c) (f6 y z) (mkReg (fN y) b))
  else if d = 0x9#4 then some (.leaWAtRmDisp6Rn (mkReg (fM y) c) (f6 y z) (mkReg (fN y) b))
  else if d = 0xA#4 then some (.leaLAtRmDisp6Rn (mkReg (fM y) c) (f6 y z) (mkReg (fN y) b))
  else if d = 0xB#4 then some (.leaQAtRmDisp6Rn (mkReg (fM y) c) (f6 y z) (mkReg (fN y) b))
  else if d = 0xC#4 then some (.movuBAtRmDisp6Rn (mkReg (fM y) c) (f6 y z) (mkReg (fN y) b))
  else if d = 0xD#4 then some (.movuWAtRmDisp6Rn (mkReg (fM y) c) (f6 y z) (mkReg (fN y) b))
  else if d = 0xE#4 then some (.movuLAtRmDisp6Rn (mkReg (fM y) c) (f6 y z) (mkReg (fN y) b))
  else if d = 0xF#4 then decodeCEGroup6LowF y z b c
  else none

/-- The `CE` forms whose second word begins with nibble 7. -/
def decodeCEGroup7 (y z b c d : Nibble) : Option Instr :=
  some (.addImm16sRnHi (nn4 y z c d) b)

/-- The `CE` forms whose second word begins with nibble 9. -/
def decodeCEGroup9 (y z b c d : Nibble) : Option Instr :=
  some (.ldsh16zImm16RnHi (nn4 y z c d) b)

/-- The `CE` forms whose second word begins with nibble A. -/
def decodeCEGroupA (y z b c d : Nibble) : Option Instr :=
  if d = 0x0#4 then some (.addRmRoRn (eQ y) (mkReg (eM y) c) (mkReg (eO y) z) (mkReg (eN y) b))
  else if d = 0x1#4 then some (.subRmRoRn (eQ y) (mkReg (eM y) c) (mkReg (eO y) z) (mkReg (eN y) b))
  else if d = 0x2#4 then some (.mulRmRoRn (eQ y) (mkReg (eM y) c) (mkReg (eO y) z) (mkReg (eN y) b))
  else if d = 0x3#4 then some (.andRmRoRn (eQ y) (mkReg (eM y) c) (mkReg (eO y) z) (mkReg (eN y) b))
  else if d = 0x4#4 then some (.orRmRoRn (eQ y) (mkReg (eM y) c) (mkReg (eO y) z) (mkReg (eN y) b))
  else if d = 0x5#4 then some (.xorRmRoRn (eQ y) (mkReg (eM y) c) (mkReg (eO y) z) (mkReg (eN y) b))
  else if d = 0x6#4 then some (.shldRmRoRn (eQ y) (mkReg (eM y) c) (mkReg (eO y) z) (mkReg (eN y) b))
  else if d = 0x7#4 then some (.shlrRmRoRn (eQ y) (mkReg (eM y) c) (mkReg (eO y) z) (mkReg (eN y) b))
  else if d = 0x8#4 then some (.shadRmRoRn (eQ y) (mkReg (eM y) c) (mkReg (eO y) z) (mkReg (eN y) b))
  else if d = 0x9#4 then some (.sharRmRoRn (eQ y) (mkReg (eM y) c) (mkReg (eO y) z) (mkReg (eN y) b))
  else if d = 0xA#4 then if eQ y then none else some (.cselt (mkReg (eM y) c) (mkReg (eO y) z) (mkReg (eN y) b))
  else none

/-- The `CE` forms whose second word begins with nibble C. -/
def decodeCEGroupC (y z b c d : Nibble) : Option Instr :=
  if b = 0x8#4 then some (.tstImm10sRn (eQ y) (f10 y z d) (mkReg (eN y) c))
  else if b = 0xA#4 then some (.xorImm10sRn (eQ y) (f10 y z d) (mkReg (eN y) c))
  else none

/-- The `CE` forms whose second word begins with nibble E. -/
def decodeCEGroupE (y z b c d : Nibble) : Option Instr :=
  some (.movImm16sRnHi (nn4 y z c d) b)

/-- The instruction of the 32-bit value `CEyz-abcd`, if it is listed (30_encoding.md R113). -/
def decodeCE (y z a b c d : Nibble) : Option Instr :=
  if a = 0x0#4 then decodeCEGroup0 y z b c d
  else if a = 0x2#4 then decodeCEGroup2 y z b c d
  else if a = 0x3#4 then decodeCEGroup3 y z b c d
  else if a = 0x4#4 then decodeCEGroup4 y z b c d
  else if a = 0x6#4 then decodeCEGroup6 y z b c d
  else if a = 0x7#4 then decodeCEGroup7 y z b c d
  else if a = 0x9#4 then decodeCEGroup9 y z b c d
  else if a = 0xA#4 then decodeCEGroupA y z b c d
  else if a = 0xC#4 then decodeCEGroupC y z b c d
  else if a = 0xE#4 then decodeCEGroupE y z b c d
  else none

/-- Whether a first word is a prefix: bits 15:8 are 8E or CE (30_encoding.md R90). -/
def isPrefix (w : Word) : Bool := (nib3 w == 0x8#4 || nib3 w == 0xC#4) && nib2 w == 0xE#4

/-- The instruction of a 16-bit word that is no prefix. -/
def decodeWord (w : Word) : Option Instr := decode16 (nib3 w) (nib2 w) (nib1 w) (nib0 w)

/-- The instruction of a prefix and a second word. -/
def decodePair (w1 w2 : Word) : Option Instr :=
  if nib3 w1 = 0x8#4 then decode8E (nib1 w1) (nib0 w1) (nib3 w2) (nib2 w2) (nib1 w2) (nib0 w2)
  else decodeCE (nib1 w1) (nib0 w1) (nib3 w2) (nib2 w2) (nib1 w2) (nib0 w2)

/-- Why bytes are no instruction. -/
inductive DecodeError where
  /-- The bytes end before the instruction does. Raised by `decode` only. -/
  | truncated
  /-- A 16-bit value that no row matches (30_encoding.md R114). -/
  | unlisted16 (w : Word)
  /-- A 32-bit value that no row matches (30_encoding.md R114). -/
  | unlisted32 (w1 w2 : Word)
  deriving DecidableEq, Repr

/-- What the decoder answers. -/
inductive DecodeResult where
  | instr (i : Instr) (rest : List Byte)
  | rejected (e : DecodeError)
  deriving DecidableEq, Repr

/-- A little-endian instruction word (20_memory.md R61, 30_encoding.md R92). -/
def joinBytes (lo hi : Byte) : Word := hi ++ lo

/-- Decode the instruction at the start of a list of bytes: a 16-bit word, or a prefix at the lower address and a second
word (30_encoding.md R90, R92, R113). -/
def decode : List Byte → DecodeResult
  | l :: h :: rest =>
    if isPrefix (joinBytes l h) then
      match rest with
      | l2 :: h2 :: rest2 =>
        match decodePair (joinBytes l h) (joinBytes l2 h2) with
        | some i => .instr i rest2
        | none => .rejected (.unlisted32 (joinBytes l h) (joinBytes l2 h2))
      | _ => .rejected .truncated
    else
      match decodeWord (joinBytes l h) with
      | some i => .instr i rest
      | none => .rejected (.unlisted16 (joinBytes l h))
  | _ => .rejected .truncated

/-! ## The encoder -/

/-- The words of an instruction, the first at the lowest address, from the patterns of the opcode table. -/
def encode : Instr → List Word
  | .addRmRn m n => [word 0x3#4 n m 0xC#4]
  | .addRmRnCe q m n => [word 0xC#4 0xE#4 (mkE q (bit4 n) (bit4 m) false) 0xC#4, word 0x3#4 (low4 n) (low4 m) 0xF#4]
  | .addImm8sRn imm n => [word 0x7#4 n (nib1 imm) (nib0 imm)]
  | .addImm16sRn imm n => [word 0x8#4 0xE#4 (nib3 imm) (nib2 imm), word 0x7#4 n (nib1 imm) (nib0 imm)]
  | .addImm16sRnHi imm n => [word 0xC#4 0xE#4 (nib3 imm) (nib2 imm), word 0x7#4 n (nib1 imm) (nib0 imm)]
  | .addRmImm8Rn m imm n => [word 0x8#4 0xE#4 (nib1 imm) (nib0 imm), word 0x3#4 n m 0xC#4]
  | .addRmImm6Rn m imm n => [word 0xC#4 0xE#4 (mkF (bit4 n) (bit4 m) (imm6Hi imm)) (nib0 imm), word 0x3#4 (low4 n) (low4 m) 0xC#4]
  | .addRmRoRn q m o n => [word 0xC#4 0xE#4 (mkE q (bit4 n) (bit4 m) (bit4 o)) (low4 o), word 0xA#4 (low4 n) (low4 m) 0x0#4]
  | .addcRmRn m n => [word 0x3#4 n m 0xE#4]
  | .addcRmRnCe q m n => [word 0xC#4 0xE#4 (mkE q (bit4 n) (bit4 m) false) 0xE#4, word 0x3#4 (low4 n) (low4 m) 0xF#4]
  | .addv q m n => [word 0xC#4 0xE#4 (mkE q (bit4 n) (bit4 m) false) 0xF#4, word 0x3#4 (low4 n) (low4 m) 0xF#4]
  | .cmpEqRmRn m n => [word 0x3#4 n m 0x0#4]
  | .cmpEqRmRnCe q m n => [word 0xC#4 0xE#4 (mkE q (bit4 n) (bit4 m) false) 0x0#4, word 0x3#4 (low4 n) (low4 m) 0xF#4]
  | .cmpEqImm8sR0 imm => [word 0x8#4 0x8#4 (nib1 imm) (nib0 imm)]
  | .cmpEqImm12sRn imm n => [word 0x8#4 0xE#4 (nib2 imm) (nib1 imm), word 0x3#4 n (nib0 imm) 0x0#4]
  | .cmpEqImm10sRn q imm n => [word 0xC#4 0xE#4 (mkQ q (bit4 n) (imm10Hi imm)) (nib1 imm), word 0x3#4 (low4 n) (nib0 imm) 0x0#4]
  | .cmpGeImm12sRn imm n => [word 0x8#4 0xE#4 (nib2 imm) (nib1 imm), word 0x3#4 n (nib0 imm) 0x3#4]
  | .cmpGeImm10sRn q imm n => [word 0xC#4 0xE#4 (mkQ q (bit4 n) (imm10Hi imm)) (nib1 imm), word 0x3#4 (low4 n) (nib0 imm) 0x3#4]
  | .cmpGeRmRn q m n => [word 0xC#4 0xE#4 (mkE q (bit4 n) (bit4 m) false) 0x3#4, word 0x3#4 (low4 n) (low4 m) 0xF#4]
  | .cmpGtRmRn m n => [word 0x3#4 n m 0x7#4]
  | .cmpGtImm12sRn imm n => [word 0x8#4 0xE#4 (nib2 imm) (nib1 imm), word 0x3#4 n (nib0 imm) 0x7#4]
  | .cmpGtImm10sRn q imm n => [word 0xC#4 0xE#4 (mkQ q (bit4 n) (imm10Hi imm)) (nib1 imm), word 0x3#4 (low4 n) (nib0 imm) 0x7#4]
  | .cmpGtRmRnCe q m n => [word 0xC#4 0xE#4 (mkE q (bit4 n) (bit4 m) false) 0x7#4, word 0x3#4 (low4 n) (low4 m) 0xF#4]
  | .cmpHiRmRn m n => [word 0x3#4 n m 0x6#4]
  | .cmpHiImm12sRn imm n => [word 0x8#4 0xE#4 (nib2 imm) (nib1 imm), word 0x3#4 n (nib0 imm) 0x6#4]
  | .cmpHiRmRnCe q m n => [word 0xC#4 0xE#4 (mkE q (bit4 n) (bit4 m) false) 0x6#4, word 0x3#4 (low4 n) (low4 m) 0xF#4]
  | .cmpHiImm10sRn q imm n => [word 0xC#4 0xE#4 (mkQ q (bit4 n) (imm10Hi imm)) (nib1 imm), word 0x3#4 (low4 n) (nib0 imm) 0x6#4]
  | .cmpHsImm12sRn imm n => [word 0x8#4 0xE#4 (nib2 imm) (nib1 imm), word 0x3#4 n (nib0 imm) 0x2#4]
  | .cmpHsRmRn q m n => [word 0xC#4 0xE#4 (mkE q (bit4 n) (bit4 m) false) 0x2#4, word 0x3#4 (low4 n) (low4 m) 0xF#4]
  | .cmpHsImm10sRn q imm n => [word 0xC#4 0xE#4 (mkQ q (bit4 n) (imm10Hi imm)) (nib1 imm), word 0x3#4 (low4 n) (nib0 imm) 0x2#4]
  | .cmpPl n => [word 0x4#4 n 0x1#4 0x5#4]
  | .cmpPz n => [word 0x4#4 n 0x1#4 0x1#4]
  | .div0s => [word 0x0#4 0x5#4 0xF#4 0x8#4]
  | .div0u => [word 0x0#4 0x0#4 0x1#4 0x9#4]
  | .div1 => [word 0x0#4 0x4#4 0xF#4 0x8#4]
  | .dmulsL m n => [word 0x3#4 n m 0xD#4]
  | .dmuluL m n => [word 0x3#4 n m 0x5#4]
  | .dt n => [word 0x4#4 n 0x1#4 0x0#4]
  | .ldsh16zImm16Rn imm n => [word 0x8#4 0xE#4 (nib3 imm) (nib2 imm), word 0x9#4 n (nib1 imm) (nib0 imm)]
  | .ldsh16zImm16RnHi imm n => [word 0xC#4 0xE#4 (nib3 imm) (nib2 imm), word 0x9#4 n (nib1 imm) (nib0 imm)]
  | .mulRmImm8Rn m imm n => [word 0x8#4 0xE#4 (nib1 imm) (nib0 imm), word 0x2#4 n m 0xE#4]
  | .mulRmNegImm8Rn m imm n => [word 0x8#4 0xE#4 (nib1 imm) (nib0 imm), word 0x2#4 n m 0xF#4]
  | .mulRmImm6Rn m imm n => [word 0xC#4 0xE#4 (mkF (bit4 n) (bit4 m) (imm6Hi imm)) (nib0 imm), word 0x2#4 (low4 n) (low4 m) 0xE#4]
  | .mulRmNegImm6Rn m imm n => [word 0xC#4 0xE#4 (mkF (bit4 n) (bit4 m) (imm6Hi imm)) (nib0 imm), word 0x2#4 (low4 n) (low4 m) 0xF#4]
  | .mulRmRoRn q m o n => [word 0xC#4 0xE#4 (mkE q (bit4 n) (bit4 m) (bit4 o)) (low4 o), word 0xA#4 (low4 n) (low4 m) 0x2#4]
  | .mulLRmRn m n => [word 0x2#4 n m 0xD#4]
  | .mulLRmRnCe m n => [word 0xC#4 0xE#4 (mkE false (bit4 n) (bit4 m) false) 0x9#4, word 0x3#4 (low4 n) (low4 m) 0xF#4]
  | .mulsW m n => [word 0x2#4 n m 0xF#4]
  | .muluW m n => [word 0x2#4 n m 0xE#4]
  | .negRmRn m n => [word 0x6#4 n m 0xB#4]
  | .negRmRnCe q m n => [word 0xC#4 0xE#4 (mkE q (bit4 n) (bit4 m) false) 0xB#4, word 0x6#4 (low4 n) (low4 m) 0xF#4]
  | .negcRmRn m n => [word 0x6#4 n m 0xA#4]
  | .negcRmRnCe q m n => [word 0xC#4 0xE#4 (mkE q (bit4 n) (bit4 m) false) 0xA#4, word 0x6#4 (low4 n) (low4 m) 0xF#4]
  | .subRmRn m n => [word 0x3#4 n m 0x8#4]
  | .subRmRnCe q m n => [word 0xC#4 0xE#4 (mkE q (bit4 n) (bit4 m) false) 0x8#4, word 0x3#4 (low4 n) (low4 m) 0xF#4]
  | .subRmImm8Rn m imm n => [word 0x8#4 0xE#4 (nib1 imm) (nib0 imm), word 0x3#4 n m 0x8#4]
  | .subRmImm6Rn m imm n => [word 0xC#4 0xE#4 (mkF (bit4 n) (bit4 m) (imm6Hi imm)) (nib0 imm), word 0x3#4 (low4 n) (low4 m) 0x8#4]
  | .subRmRoRn q m o n => [word 0xC#4 0xE#4 (mkE q (bit4 n) (bit4 m) (bit4 o)) (low4 o), word 0xA#4 (low4 n) (low4 m) 0x1#4]
  | .subc m n => [word 0x3#4 n m 0xA#4]
  | .subv q m n => [word 0xC#4 0xE#4 (mkE q (bit4 n) (bit4 m) false) 0xB#4, word 0x3#4 (low4 n) (low4 m) 0xF#4]
  | .andRmRn m n => [word 0x2#4 n m 0x9#4]
  | .andImm8R0 imm => [word 0xC#4 0x9#4 (nib1 imm) (nib0 imm)]
  | .andImm12sRn imm n => [word 0x8#4 0xE#4 (nib2 imm) (nib1 imm), word 0xC#4 0x9#4 n (nib0 imm)]
  | .andRmImm8Rn m imm n => [word 0x8#4 0xE#4 (nib1 imm) (nib0 imm), word 0x2#4 n m 0x9#4]
  | .andRmImm6Rn m imm n => [word 0xC#4 0xE#4 (mkF (bit4 n) (bit4 m) (imm6Hi imm)) (nib0 imm), word 0x2#4 (low4 n) (low4 m) 0x9#4]
  | .andRmNegImm8Rn m imm n => [word 0x8#4 0xE#4 (nib1 imm) (nib0 imm), word 0x3#4 n m 0x9#4]
  | .andRmNegImm6Rn m imm n => [word 0xC#4 0xE#4 (mkF (bit4 n) (bit4 m) (imm6Hi imm)) (nib0 imm), word 0x3#4 (low4 n) (low4 m) 0x9#4]
  | .andRmRoRn q m o n => [word 0xC#4 0xE#4 (mkE q (bit4 n) (bit4 m) (bit4 o)) (low4 o), word 0xA#4 (low4 n) (low4 m) 0x3#4]
  | .cselt m o n => [word 0xC#4 0xE#4 (mkE false (bit4 n) (bit4 m) (bit4 o)) (low4 o), word 0xA#4 (low4 n) (low4 m) 0xA#4]
  | .extsBRn n => [word 0x4#4 n 0x5#4 0x0#4]
  | .extsBRmRn m n => [word 0x6#4 n m 0xE#4]
  | .extsBRmRnCe m n => [word 0xC#4 0xE#4 (mkE false (bit4 n) (bit4 m) false) 0xE#4, word 0x6#4 (low4 n) (low4 m) 0xF#4]
  | .extsL n => [word 0x4#4 n 0x5#4 0x4#4]
  | .extsWRn n => [word 0x4#4 n 0x5#4 0x1#4]
  | .extsWRmRn m n => [word 0x6#4 n m 0xF#4]
  | .extsWRmRnCe m n => [word 0xC#4 0xE#4 (mkE false (bit4 n) (bit4 m) false) 0xF#4, word 0x6#4 (low4 n) (low4 m) 0xF#4]
  | .extuBRn n => [word 0x4#4 n 0x4#4 0x0#4]
  | .extuBRmRn m n => [word 0x6#4 n m 0xC#4]
  | .extuBRmRnCe m n => [word 0xC#4 0xE#4 (mkE false (bit4 n) (bit4 m) false) 0xC#4, word 0x6#4 (low4 n) (low4 m) 0xF#4]
  | .extuLRn n => [word 0x4#4 n 0x4#4 0x4#4]
  | .extuLRmRn m n => [word 0xC#4 0xE#4 (mkE false (bit4 n) (bit4 m) true) 0xD#4, word 0x6#4 (low4 n) (low4 m) 0xF#4]
  | .extuWRn n => [word 0x4#4 n 0x4#4 0x1#4]
  | .extuWRmRn m n => [word 0x6#4 n m 0xD#4]
  | .extuWRmRnCe m n => [word 0xC#4 0xE#4 (mkE false (bit4 n) (bit4 m) false) 0xD#4, word 0x6#4 (low4 n) (low4 m) 0xF#4]
  | .movRmRn m n => [word 0x4#4 n m 0xF#4]
  | .movRmRnCe m n => [word 0xC#4 0xE#4 (mkE false (bit4 n) (bit4 m) false) 0x0#4, word 0x4#4 (low4 n) (low4 m) 0xF#4]
  | .movImm8sRn imm n => [word 0xE#4 n (nib1 imm) (nib0 imm)]
  | .movImm16sRn imm n => [word 0x8#4 0xE#4 (nib3 imm) (nib2 imm), word 0xE#4 n (nib1 imm) (nib0 imm)]
  | .movImm16sRnHi imm n => [word 0xC#4 0xE#4 (nib3 imm) (nib2 imm), word 0xE#4 n (nib1 imm) (nib0 imm)]
  | .movt n => [word 0x0#4 n 0x2#4 0x9#4]
  | .notRmRn m n => [word 0x3#4 n m 0xB#4]
  | .notRmRnCe q m n => [word 0xC#4 0xE#4 (mkE q (bit4 n) (bit4 m) false) 0x7#4, word 0x4#4 (low4 n) (low4 m) 0xF#4]
  | .orRmRn m n => [word 0x2#4 n m 0xB#4]
  | .orRmRnCe q m n => [word 0xC#4 0xE#4 (mkE q (bit4 n) (bit4 m) false) 0xB#4, word 0x4#4 (low4 n) (low4 m) 0xF#4]
  | .orImm8R0 imm => [word 0xC#4 0xB#4 (nib1 imm) (nib0 imm)]
  | .orImm12sRn imm n => [word 0x8#4 0xE#4 (nib2 imm) (nib1 imm), word 0xC#4 0xB#4 n (nib0 imm)]
  | .orRmImm8Rn m imm n => [word 0x8#4 0xE#4 (nib1 imm) (nib0 imm), word 0x2#4 n m 0xB#4]
  | .orRmImm6Rn m imm n => [word 0xC#4 0xE#4 (mkF (bit4 n) (bit4 m) (imm6Hi imm)) (nib0 imm), word 0x2#4 (low4 n) (low4 m) 0xB#4]
  | .orRmRoRn q m o n => [word 0xC#4 0xE#4 (mkE q (bit4 n) (bit4 m) (bit4 o)) (low4 o), word 0xA#4 (low4 n) (low4 m) 0x4#4]
  | .swapBRn n => [word 0x4#4 n 0x4#4 0x9#4]
  | .swapBRmRn m n => [word 0xC#4 0xE#4 (mkE false (bit4 n) (bit4 m) false) 0x8#4, word 0x6#4 (low4 n) (low4 m) 0xF#4]
  | .swapWRn n => [word 0x4#4 n 0x5#4 0x9#4]
  | .swapWRmRn m n => [word 0xC#4 0xE#4 (mkE false (bit4 n) (bit4 m) false) 0x9#4, word 0x6#4 (low4 n) (low4 m) 0xF#4]
  | .tstRmRn m n => [word 0x2#4 n m 0x8#4]
  | .tstRmRnCe q m n => [word 0xC#4 0xE#4 (mkE q (bit4 n) (bit4 m) false) 0x8#4, word 0x4#4 (low4 n) (low4 m) 0xF#4]
  | .tstImm8R0 imm => [word 0xC#4 0x8#4 (nib1 imm) (nib0 imm)]
  | .tstImm12sRn imm n => [word 0x8#4 0xE#4 (nib2 imm) (nib1 imm), word 0xC#4 0x8#4 n (nib0 imm)]
  | .tstImm10sRn q imm n => [word 0xC#4 0xE#4 (mkQ q (bit4 n) (imm10Hi imm)) (nib1 imm), word 0xC#4 0x8#4 (low4 n) (nib0 imm)]
  | .xorRmRn m n => [word 0x2#4 n m 0xA#4]
  | .xorRmRnCe q m n => [word 0xC#4 0xE#4 (mkE q (bit4 n) (bit4 m) false) 0xA#4, word 0x4#4 (low4 n) (low4 m) 0xF#4]
  | .xorImm8R0 imm => [word 0xC#4 0xA#4 (nib1 imm) (nib0 imm)]
  | .xorImm12sRn imm n => [word 0x8#4 0xE#4 (nib2 imm) (nib1 imm), word 0xC#4 0xA#4 n (nib0 imm)]
  | .xorImm10sRn q imm n => [word 0xC#4 0xE#4 (mkQ q (bit4 n) (imm10Hi imm)) (nib1 imm), word 0xC#4 0xA#4 (low4 n) (nib0 imm)]
  | .xorRmImm8Rn m imm n => [word 0x8#4 0xE#4 (nib1 imm) (nib0 imm), word 0x2#4 n m 0xA#4]
  | .xorRmImm6Rn m imm n => [word 0xC#4 0xE#4 (mkF (bit4 n) (bit4 m) (imm6Hi imm)) (nib0 imm), word 0x2#4 (low4 n) (low4 m) 0xA#4]
  | .xorRmRoRn q m o n => [word 0xC#4 0xE#4 (mkE q (bit4 n) (bit4 m) (bit4 o)) (low4 o), word 0xA#4 (low4 n) (low4 m) 0x5#4]
  | .xtrctR4R0 => [word 0x0#4 0x8#4 0xF#4 0x8#4]
  | .xtrctR0R4 => [word 0x0#4 0x9#4 0xF#4 0x8#4]
  | .rot32 n => [word 0x4#4 n 0x1#4 0x4#4]
  | .rotcl n => [word 0x4#4 n 0x2#4 0x4#4]
  | .rotcr n => [word 0x4#4 n 0x2#4 0x5#4]
  | .rotl n => [word 0x4#4 n 0x0#4 0x4#4]
  | .rotr n => [word 0x4#4 n 0x0#4 0x5#4]
  | .shadRmRn m n => [word 0x4#4 n m 0xC#4]
  | .shadRmRnCe q m n => [word 0xC#4 0xE#4 (mkE q (bit4 n) (bit4 m) false) 0xC#4, word 0x4#4 (low4 n) (low4 m) 0xF#4]
  | .shadRmImmRn m imm n => [word 0x8#4 0xE#4 (nib1 imm) (nib0 imm), word 0x4#4 n m 0xC#4]
  | .shadRmRoRn q m o n => [word 0xC#4 0xE#4 (mkE q (bit4 n) (bit4 m) (bit4 o)) (low4 o), word 0xA#4 (low4 n) (low4 m) 0x8#4]
  | .shadL m imm n => [word 0xC#4 0xE#4 (mkF (bit4 n) (bit4 m) (imm6Hi imm)) (nib0 imm), word 0x4#4 (low4 n) (low4 m) 0xC#4]
  | .shal n => [word 0x4#4 n 0x2#4 0x0#4]
  | .shalQ m imm n => [word 0xC#4 0xE#4 (mkF (bit4 n) (bit4 m) (imm6Hi imm)) (nib0 imm), word 0x3#4 (low4 n) (low4 m) 0xD#4]
  | .sharRn n => [word 0x4#4 n 0x2#4 0x1#4]
  | .sharQ m imm n => [word 0xC#4 0xE#4 (mkF (bit4 n) (bit4 m) (imm6Hi imm)) (nib0 imm), word 0x3#4 (low4 n) (low4 m) 0xA#4]
  | .sharRmRoRn q m o n => [word 0xC#4 0xE#4 (mkE q (bit4 n) (bit4 m) (bit4 o)) (low4 o), word 0xA#4 (low4 n) (low4 m) 0x9#4]
  | .shldRmRn m n => [word 0x4#4 n m 0xD#4]
  | .shldRmImm8Rn m imm n => [word 0x8#4 0xE#4 (nib1 imm) (nib0 imm), word 0x4#4 n m 0xD#4]
  | .shldRmImm6Rn m imm n => [word 0xC#4 0xE#4 (mkF (bit4 n) (bit4 m) (imm6Hi imm)) (nib0 imm), word 0x4#4 (low4 n) (low4 m) 0xD#4]
  | .shldRmRoRn q m o n => [word 0xC#4 0xE#4 (mkE q (bit4 n) (bit4 m) (bit4 o)) (low4 o), word 0xA#4 (low4 n) (low4 m) 0x6#4]
  | .shll n => [word 0x4#4 n 0x0#4 0x0#4]
  | .shll2 n => [word 0x4#4 n 0x0#4 0x8#4]
  | .shll4 n => [word 0x4#4 n 0x3#4 0x4#4]
  | .shll8 n => [word 0x4#4 n 0x1#4 0x8#4]
  | .shll16 n => [word 0x4#4 n 0x2#4 0x8#4]
  | .shll32 n => [word 0x4#4 n 0x3#4 0x8#4]
  | .shlrRn n => [word 0x4#4 n 0x0#4 0x1#4]
  | .shlrQ m imm n => [word 0xC#4 0xE#4 (mkF (bit4 n) (bit4 m) (imm6Hi imm)) (nib0 imm), word 0x3#4 (low4 n) (low4 m) 0xB#4]
  | .shlrRmRoRn q m o n => [word 0xC#4 0xE#4 (mkE q (bit4 n) (bit4 m) (bit4 o)) (low4 o), word 0xA#4 (low4 n) (low4 m) 0x7#4]
  | .shlr2 n => [word 0x4#4 n 0x0#4 0x9#4]
  | .shlr4 n => [word 0x4#4 n 0x3#4 0x5#4]
  | .shlr8 n => [word 0x4#4 n 0x1#4 0x9#4]
  | .shlr16 n => [word 0x4#4 n 0x2#4 0x9#4]
  | .shlr32 n => [word 0x4#4 n 0x3#4 0x9#4]
  | .casL => [word 0x0#4 0x6#4 0xF#4 0x8#4]
  | .leaBAtPcR0Rn n => [word 0x4#4 n 0xF#4 0x5#4]
  | .leaBAtRmRoDisp4Rn m o disp n => [word 0x8#4 0xE#4 o disp, word 0x6#4 n m 0x4#4]
  | .leaBAtRmDisp8sRn m disp n => [word 0x8#4 0xE#4 (nib1 disp) (nib0 disp), word 0x6#4 n m 0x8#4]
  | .leaBAtRmRoRn m o n => [word 0xC#4 0xE#4 (mkF (bit4 n) (bit4 m) 0#2) o, word 0x6#4 (low4 n) (low4 m) 0x4#4]
  | .leaBAtRmDisp6Rn m disp n => [word 0xC#4 0xE#4 (mkF (bit4 n) (bit4 m) (imm6Hi disp)) (nib0 disp), word 0x6#4 (low4 n) (low4 m) 0x8#4]
  | .leaWAtRmRoDisp4Rn m o disp n => [word 0x8#4 0xE#4 o disp, word 0x6#4 n m 0x5#4]
  | .leaWAtRmDisp8sRn m disp n => [word 0x8#4 0xE#4 (nib1 disp) (nib0 disp), word 0x6#4 n m 0x9#4]
  | .leaWAtRmRoRn m o n => [word 0xC#4 0xE#4 (mkF (bit4 n) (bit4 m) 0#2) o, word 0x6#4 (low4 n) (low4 m) 0x5#4]
  | .leaWAtRmDisp6Rn m disp n => [word 0xC#4 0xE#4 (mkF (bit4 n) (bit4 m) (imm6Hi disp)) (nib0 disp), word 0x6#4 (low4 n) (low4 m) 0x9#4]
  | .leaLAtRmRoDisp4Rn m o disp n => [word 0x8#4 0xE#4 o disp, word 0x6#4 n m 0x6#4]
  | .leaLAtRmDisp8sRn m disp n => [word 0x8#4 0xE#4 (nib1 disp) (nib0 disp), word 0x6#4 n m 0xA#4]
  | .leaLAtRmRoRn m o n => [word 0xC#4 0xE#4 (mkF (bit4 n) (bit4 m) 0#2) o, word 0x6#4 (low4 n) (low4 m) 0x6#4]
  | .leaLAtRmDisp6Rn m disp n => [word 0xC#4 0xE#4 (mkF (bit4 n) (bit4 m) (imm6Hi disp)) (nib0 disp), word 0x6#4 (low4 n) (low4 m) 0xA#4]
  | .leaQAtRmRoDisp4Rn m o disp n => [word 0x8#4 0xE#4 o disp, word 0x6#4 n m 0x7#4]
  | .leaQAtRmDisp8sRn m disp n => [word 0x8#4 0xE#4 (nib1 disp) (nib0 disp), word 0x6#4 n m 0xB#4]
  | .leaQAtRmRoRn m o n => [word 0xC#4 0xE#4 (mkF (bit4 n) (bit4 m) 0#2) o, word 0x6#4 (low4 n) (low4 m) 0x7#4]
  | .leaQAtRmDisp6Rn m disp n => [word 0xC#4 0xE#4 (mkF (bit4 n) (bit4 m) (imm6Hi disp)) (nib0 disp), word 0x6#4 (low4 n) (low4 m) 0xB#4]
  | .movBRmAtR0Rn m n => [word 0x0#4 n m 0x4#4]
  | .movBRmAtRn m n => [word 0x2#4 n m 0x0#4]
  | .movBRmDecRn m n => [word 0x2#4 n m 0x4#4]
  | .movBAtR0RmRn m n => [word 0x0#4 n m 0xC#4]
  | .movBAtRmRn m n => [word 0x6#4 n m 0x0#4]
  | .movBIncRmRn m n => [word 0x6#4 n m 0x4#4]
  | .movBRmAtPcR0 m => [word 0x4#4 m 0xC#4 0x1#4]
  | .movBAtPcR0Rn n => [word 0x4#4 n 0xC#4 0x5#4]
  | .movBRmAtRnRoDisp4 m n o disp => [word 0x8#4 0xE#4 o disp, word 0x0#4 n m 0x4#4]
  | .movBRmAtRnDisp8s m n disp => [word 0x8#4 0xE#4 (nib1 disp) (nib0 disp), word 0x2#4 n m 0x0#4]
  | .movBAtRmRoDisp4Rn m o disp n => [word 0x8#4 0xE#4 o disp, word 0x0#4 n m 0xC#4]
  | .movBAtRmDisp8sRn m disp n => [word 0x8#4 0xE#4 (nib1 disp) (nib0 disp), word 0x6#4 n m 0x0#4]
  | .movBRmAtRnRo m n o => [word 0xC#4 0xE#4 (mkE false (bit4 n) (bit4 m) (bit4 o)) (low4 o), word 0x0#4 (low4 n) (low4 m) 0x4#4]
  | .movBRmAtRnDisp6 m n disp => [word 0xC#4 0xE#4 (mkF (bit4 n) (bit4 m) (imm6Hi disp)) (nib0 disp), word 0x2#4 (low4 n) (low4 m) 0x0#4]
  | .movBAtRmRoRn m o n => [word 0xC#4 0xE#4 (mkE false (bit4 n) (bit4 m) (bit4 o)) (low4 o), word 0x0#4 (low4 n) (low4 m) 0xC#4]
  | .movBAtRmDisp6Rn m disp n => [word 0xC#4 0xE#4 (mkF (bit4 n) (bit4 m) (imm6Hi disp)) (nib0 disp), word 0x6#4 (low4 n) (low4 m) 0x0#4]
  | .movLRmAtR0Rn m n => [word 0x0#4 n m 0x6#4]
  | .movLRmAtRnDisp4 m n disp => [word 0x1#4 n m disp]
  | .movLRmAtRn m n => [word 0x2#4 n m 0x2#4]
  | .movLRmDecRn m n => [word 0x2#4 n m 0x6#4]
  | .movLAtR0RmRn m n => [word 0x0#4 n m 0xE#4]
  | .movLAtRmDisp4Rn m disp n => [word 0x5#4 n m disp]
  | .movLAtRmRn m n => [word 0x6#4 n m 0x2#4]
  | .movLIncRmRn m n => [word 0x6#4 n m 0x6#4]
  | .movLAtPcDisp8Rn disp n => [word 0xD#4 n (nib1 disp) (nib0 disp)]
  | .movLRmAtPcR0 m => [word 0x4#4 m 0xE#4 0x1#4]
  | .movLAtPcR0Rn n => [word 0x4#4 n 0xE#4 0x5#4]
  | .movLRmAtRnRoDisp4 m n o disp => [word 0x8#4 0xE#4 o disp, word 0x0#4 n m 0x6#4]
  | .movLRmAtRnRoDisp8s m n o disp => [word 0x8#4 0xE#4 (nib1 disp) (nib0 disp), word 0x1#4 n m o]
  | .movLRmAtRnDisp8s m n disp => [word 0x8#4 0xE#4 (nib1 disp) (nib0 disp), word 0x2#4 n m 0x2#4]
  | .movLAtRmRoDisp4Rn m o disp n => [word 0x8#4 0xE#4 o disp, word 0x0#4 n m 0xE#4]
  | .movLAtRmRoDisp8sRn m o disp n => [word 0x8#4 0xE#4 (nib1 disp) (nib0 disp), word 0x5#4 n m o]
  | .movLAtRmDisp8sRn m disp n => [word 0x8#4 0xE#4 (nib1 disp) (nib0 disp), word 0x6#4 n m 0x2#4]
  | .movLRmAtRnRo m n o => [word 0xC#4 0xE#4 (mkE false (bit4 n) (bit4 m) (bit4 o)) (low4 o), word 0x0#4 (low4 n) (low4 m) 0x6#4]
  | .movLRmAtRnDisp6 m n disp => [word 0xC#4 0xE#4 (mkF (bit4 n) (bit4 m) (imm6Hi disp)) (nib0 disp), word 0x2#4 (low4 n) (low4 m) 0x2#4]
  | .movLAtRmRoRn m o n => [word 0xC#4 0xE#4 (mkE false (bit4 n) (bit4 m) (bit4 o)) (low4 o), word 0x0#4 (low4 n) (low4 m) 0xE#4]
  | .movLAtRmDisp6Rn m disp n => [word 0xC#4 0xE#4 (mkF (bit4 n) (bit4 m) (imm6Hi disp)) (nib0 disp), word 0x6#4 (low4 n) (low4 m) 0x2#4]
  | .movQRmAtR0Rn m n => [word 0x0#4 n m 0x7#4]
  | .movQAtR0RmRn m n => [word 0x0#4 n m 0xF#4]
  | .movQRmAtRn m n => [word 0x2#4 n m 0x3#4]
  | .movQRmDecRn m n => [word 0x2#4 n m 0x7#4]
  | .movQRmAtPcR0 m => [word 0x4#4 m 0xA#4 0x1#4]
  | .movQAtPcR0Rn n => [word 0x4#4 n 0xA#4 0x5#4]
  | .movQAtRmRn m n => [word 0x6#4 n m 0x3#4]
  | .movQIncRmRn m n => [word 0x6#4 n m 0x7#4]
  | .movQRmAtSpDisp4 m disp => [word 0xC#4 0x0#4 m disp]
  | .movQAtSpDisp4Rn disp n => [word 0xC#4 0x4#4 n disp]
  | .movQRmAtRnRoDisp4 m n o disp => [word 0x8#4 0xE#4 o disp, word 0x0#4 n m 0x7#4]
  | .movQAtRmRoDisp4Rn m o disp n => [word 0x8#4 0xE#4 o disp, word 0x0#4 n m 0xF#4]
  | .movQRmAtRnDisp8s m n disp => [word 0x8#4 0xE#4 (nib1 disp) (nib0 disp), word 0x2#4 n m 0x3#4]
  | .movQAtRmDisp8sRn m disp n => [word 0x8#4 0xE#4 (nib1 disp) (nib0 disp), word 0x6#4 n m 0x3#4]
  | .movQRmAtRnRo m n o => [word 0xC#4 0xE#4 (mkE false (bit4 n) (bit4 m) (bit4 o)) (low4 o), word 0x0#4 (low4 n) (low4 m) 0x7#4]
  | .movQAtRmRoRn m o n => [word 0xC#4 0xE#4 (mkE false (bit4 n) (bit4 m) (bit4 o)) (low4 o), word 0x0#4 (low4 n) (low4 m) 0xF#4]
  | .movQRmAtRnDisp6 m n disp => [word 0xC#4 0xE#4 (mkF (bit4 n) (bit4 m) (imm6Hi disp)) (nib0 disp), word 0x2#4 (low4 n) (low4 m) 0x3#4]
  | .movQAtRmDisp6Rn m disp n => [word 0xC#4 0xE#4 (mkF (bit4 n) (bit4 m) (imm6Hi disp)) (nib0 disp), word 0x6#4 (low4 n) (low4 m) 0x3#4]
  | .movWRmAtR0Rn m n => [word 0x0#4 n m 0x5#4]
  | .movWAtR0RmRn m n => [word 0x0#4 n m 0xD#4]
  | .movWRmAtRn m n => [word 0x2#4 n m 0x1#4]
  | .movWRmDecRn m n => [word 0x2#4 n m 0x5#4]
  | .movWRmAtPcR0 m => [word 0x4#4 m 0xD#4 0x1#4]
  | .movWAtPcR0Rn n => [word 0x4#4 n 0xD#4 0x5#4]
  | .movWAtRmRn m n => [word 0x6#4 n m 0x1#4]
  | .movWIncRmRn m n => [word 0x6#4 n m 0x5#4]
  | .movWAtPcDisp8Rn disp n => [word 0x9#4 n (nib1 disp) (nib0 disp)]
  | .movWRmAtRnRoDisp4 m n o disp => [word 0x8#4 0xE#4 o disp, word 0x0#4 n m 0x5#4]
  | .movWAtRmRoDisp4Rn m o disp n => [word 0x8#4 0xE#4 o disp, word 0x0#4 n m 0xD#4]
  | .movWRmAtRnDisp8s m n disp => [word 0x8#4 0xE#4 (nib1 disp) (nib0 disp), word 0x2#4 n m 0x1#4]
  | .movWAtRmDisp8sRn m disp n => [word 0x8#4 0xE#4 (nib1 disp) (nib0 disp), word 0x6#4 n m 0x1#4]
  | .movWRmAtRnRo m n o => [word 0xC#4 0xE#4 (mkE false (bit4 n) (bit4 m) (bit4 o)) (low4 o), word 0x0#4 (low4 n) (low4 m) 0x5#4]
  | .movWRmAtRnDisp6 m n disp => [word 0xC#4 0xE#4 (mkF (bit4 n) (bit4 m) (imm6Hi disp)) (nib0 disp), word 0x2#4 (low4 n) (low4 m) 0x1#4]
  | .movWAtRmRoRn m o n => [word 0xC#4 0xE#4 (mkE false (bit4 n) (bit4 m) (bit4 o)) (low4 o), word 0x0#4 (low4 n) (low4 m) 0xD#4]
  | .movWAtRmDisp6Rn m disp n => [word 0xC#4 0xE#4 (mkF (bit4 n) (bit4 m) (imm6Hi disp)) (nib0 disp), word 0x6#4 (low4 n) (low4 m) 0x1#4]
  | .mova disp => [word 0xC#4 0x7#4 (nib1 disp) (nib0 disp)]
  | .movcaL n => [word 0x0#4 n 0xC#4 0x3#4]
  | .movuBAtRmDisp8sRn m disp n => [word 0x8#4 0xE#4 (nib1 disp) (nib0 disp), word 0x6#4 n m 0xC#4]
  | .movuBAtRmDisp6Rn m disp n => [word 0xC#4 0xE#4 (mkF (bit4 n) (bit4 m) (imm6Hi disp)) (nib0 disp), word 0x6#4 (low4 n) (low4 m) 0xC#4]
  | .movuWAtRmDisp8sRn m disp n => [word 0x8#4 0xE#4 (nib1 disp) (nib0 disp), word 0x6#4 n m 0xD#4]
  | .movuWAtRmDisp6Rn m disp n => [word 0xC#4 0xE#4 (mkF (bit4 n) (bit4 m) (imm6Hi disp)) (nib0 disp), word 0x6#4 (low4 n) (low4 m) 0xD#4]
  | .movuLAtRmDisp8sRn m disp n => [word 0x8#4 0xE#4 (nib1 disp) (nib0 disp), word 0x6#4 n m 0xE#4]
  | .movuLAtRmDisp6Rn m disp n => [word 0xC#4 0xE#4 (mkF (bit4 n) (bit4 m) (imm6Hi disp)) (nib0 disp), word 0x6#4 (low4 n) (low4 m) 0xE#4]
  | .popQRn n => [word 0x4#4 n 0x5#4 0x8#4]
  | .popQRnHi n => [word 0x4#4 n 0x7#4 0x8#4]
  | .pushQRm m => [word 0x4#4 m 0x4#4 0x8#4]
  | .pushQRmHi m => [word 0x4#4 m 0x6#4 0x8#4]
  | .bfLabel8s label => [word 0x8#4 0xB#4 (nib1 label) (nib0 label)]
  | .bfLabel16s label => [word 0x8#4 0xE#4 (nib3 label) (nib2 label), word 0x8#4 0xB#4 (nib1 label) (nib0 label)]
  | .bfSLabel8s label => [word 0x8#4 0xF#4 (nib1 label) (nib0 label)]
  | .bfSLabel16s label => [word 0x8#4 0xE#4 (nib3 label) (nib2 label), word 0x8#4 0xF#4 (nib1 label) (nib0 label)]
  | .bra label => [word 0xA#4 (nib2 label) (nib1 label) (nib0 label)]
  | .braf n => [word 0x0#4 n 0x2#4 0x3#4]
  | .braNLabel8s label => [word 0x8#4 0x2#4 (nib1 label) (nib0 label)]
  | .braNLabel16s label => [word 0x8#4 0xE#4 (nib3 label) (nib2 label), word 0x8#4 0x2#4 (nib1 label) (nib0 label)]
  | .bsr label => [word 0xB#4 (nib2 label) (nib1 label) (nib0 label)]
  | .bsrf n => [word 0x0#4 n 0x0#4 0x3#4]
  | .bsrN label => [word 0x8#4 0xE#4 (nib3 label) (nib2 label), word 0x8#4 0x3#4 (nib1 label) (nib0 label)]
  | .btLabel8s label => [word 0x8#4 0x9#4 (nib1 label) (nib0 label)]
  | .btLabel16s label => [word 0x8#4 0xE#4 (nib3 label) (nib2 label), word 0x8#4 0x9#4 (nib1 label) (nib0 label)]
  | .btSLabel8s label => [word 0x8#4 0xD#4 (nib1 label) (nib0 label)]
  | .btSLabel16s label => [word 0x8#4 0xE#4 (nib3 label) (nib2 label), word 0x8#4 0xD#4 (nib1 label) (nib0 label)]
  | .jmp n => [word 0x4#4 n 0x2#4 0xB#4]
  | .jsr n => [word 0x4#4 n 0x0#4 0xB#4]
  | .rts => [word 0x0#4 0x0#4 0x0#4 0xB#4]
  | .brk => [word 0x0#4 0x0#4 0x3#4 0xB#4]
  | .clrmac => [word 0x0#4 0x0#4 0x2#4 0x8#4]
  | .clrs => [word 0x0#4 0x0#4 0x4#4 0x8#4]
  | .clrt => [word 0x0#4 0x0#4 0x0#4 0x8#4]
  | .ldcRmSr m => [word 0x4#4 m 0x0#4 0xE#4]
  | .ldcRmGbr m => [word 0x4#4 m 0x1#4 0xE#4]
  | .ldcRmVbr m => [word 0x4#4 m 0x2#4 0xE#4]
  | .ldcRmSsr m => [word 0x4#4 m 0x3#4 0xE#4]
  | .ldcRmSpc m => [word 0x4#4 m 0x4#4 0xE#4]
  | .ldcRmBank m b => [word 0x4#4 m (mkBank b) 0xE#4]
  | .ldcRmDbr m => [word 0x4#4 m 0xF#4 0xA#4]
  | .ldcLIncRmSr m => [word 0x4#4 m 0x0#4 0x7#4]
  | .ldcLIncRmGbr m => [word 0x4#4 m 0x1#4 0x7#4]
  | .ldcLIncRmVbr m => [word 0x4#4 m 0x2#4 0x7#4]
  | .ldcLIncRmSsr m => [word 0x4#4 m 0x3#4 0x7#4]
  | .ldcLIncRmSpc m => [word 0x4#4 m 0x4#4 0x7#4]
  | .ldcLIncRmBank m b => [word 0x4#4 m (mkBank b) 0x7#4]
  | .ldcLIncRmDbr m => [word 0x4#4 m 0xF#4 0x6#4]
  | .ldsRmMach m => [word 0x4#4 m 0x0#4 0xA#4]
  | .ldsRmMacl m => [word 0x4#4 m 0x1#4 0xA#4]
  | .ldsRmPr m => [word 0x4#4 m 0x2#4 0xA#4]
  | .ldsRmFpul m => [word 0x4#4 m 0x5#4 0xA#4]
  | .ldsRmFpscr m => [word 0x4#4 m 0x6#4 0xA#4]
  | .ldsLIncRmMach m => [word 0x4#4 m 0x0#4 0x6#4]
  | .ldsLIncRmMacl m => [word 0x4#4 m 0x1#4 0x6#4]
  | .ldsLIncRmPr m => [word 0x4#4 m 0x2#4 0x6#4]
  | .ldsLIncRmFpul m => [word 0x4#4 m 0x5#4 0x6#4]
  | .ldsLIncRmFpscr m => [word 0x4#4 m 0x6#4 0x6#4]
  | .ldtlb => [word 0x0#4 0x0#4 0x3#4 0x8#4]
  | .nop => [word 0x0#4 0x0#4 0x0#4 0x9#4]
  | .nopImm imm => [word 0x0#4 imm 0x0#4 0x9#4]
  | .rte => [word 0x0#4 0x0#4 0x2#4 0xB#4]
  | .sets => [word 0x0#4 0x0#4 0x5#4 0x8#4]
  | .sett => [word 0x0#4 0x0#4 0x1#4 0x8#4]
  | .sleep => [word 0x0#4 0x0#4 0x1#4 0xB#4]
  | .stcSrRn n => [word 0x0#4 n 0x0#4 0x2#4]
  | .stcGbrRn n => [word 0x0#4 n 0x1#4 0x2#4]
  | .stcVbrRn n => [word 0x0#4 n 0x2#4 0x2#4]
  | .stcSsrRn n => [word 0x0#4 n 0x3#4 0x2#4]
  | .stcSpcRn n => [word 0x0#4 n 0x4#4 0x2#4]
  | .stcDbrRn n => [word 0x0#4 n 0xF#4 0xA#4]
  | .stcBankRn b n => [word 0x0#4 n (mkBank b) 0x2#4]
  | .stcLSrDecRn n => [word 0x4#4 n 0x0#4 0x3#4]
  | .stcLGbrDecRn n => [word 0x4#4 n 0x1#4 0x3#4]
  | .stcLVbrDecRn n => [word 0x4#4 n 0x2#4 0x3#4]
  | .stcLSsrDecRn n => [word 0x4#4 n 0x3#4 0x3#4]
  | .stcLSpcDecRn n => [word 0x4#4 n 0x4#4 0x3#4]
  | .stcLDbrDecRn n => [word 0x4#4 n 0xF#4 0x2#4]
  | .stcLBankDecRn b n => [word 0x4#4 n (mkBank b) 0x3#4]
  | .stsMachRn n => [word 0x0#4 n 0x0#4 0xA#4]
  | .stsMaclRn n => [word 0x0#4 n 0x1#4 0xA#4]
  | .stsPrRn n => [word 0x0#4 n 0x2#4 0xA#4]
  | .stsFpulRn n => [word 0x0#4 n 0x5#4 0xA#4]
  | .stsFpscrRn n => [word 0x0#4 n 0x6#4 0xA#4]
  | .stsLMachDecRn n => [word 0x4#4 n 0x0#4 0x2#4]
  | .stsLMaclDecRn n => [word 0x4#4 n 0x1#4 0x2#4]
  | .stsLPrDecRn n => [word 0x4#4 n 0x2#4 0x2#4]
  | .stsLFpulDecRn n => [word 0x4#4 n 0x5#4 0x2#4]
  | .stsLFpscrDecRn n => [word 0x4#4 n 0x6#4 0x2#4]
  | .trapa imm => [word 0xC#4 0x3#4 (nib1 imm) (nib0 imm)]
  | .fabs n => [word 0xF#4 n 0x5#4 0xD#4]
  | .fadd m n => [word 0xF#4 n m 0x0#4]
  | .fcmpeq m n => [word 0xF#4 n m 0x4#4]
  | .fcmpgt m n => [word 0xF#4 n m 0x5#4]
  | .fcnvds m => [word 0xF#4 m 0xB#4 0xD#4]
  | .fcnvsd n => [word 0xF#4 n 0xA#4 0xD#4]
  | .fdiv m n => [word 0xF#4 n m 0x3#4]
  | .fipr vm vn => [word 0xF#4 (mkVec vn vm) 0xE#4 0xD#4]
  | .fldi0 n => [word 0xF#4 n 0x8#4 0xD#4]
  | .fldi1 n => [word 0xF#4 n 0x9#4 0xD#4]
  | .flds m => [word 0xF#4 m 0x1#4 0xD#4]
  | .float n => [word 0xF#4 n 0x2#4 0xD#4]
  | .fmac m n => [word 0xF#4 n m 0xE#4]
  | .fmov m n => [word 0xF#4 n m 0xC#4]
  | .fmovSAtR0RmFrn m n => [word 0xF#4 n m 0x6#4]
  | .fmovSFrmAtR0Rn m n => [word 0xF#4 n m 0x7#4]
  | .fmovSAtRmFrn m n => [word 0xF#4 n m 0x8#4]
  | .fmovSIncRmFrn m n => [word 0xF#4 n m 0x9#4]
  | .fmovSFrmAtRn m n => [word 0xF#4 n m 0xA#4]
  | .fmovSFrmDecRn m n => [word 0xF#4 n m 0xB#4]
  | .fmul m n => [word 0xF#4 n m 0x2#4]
  | .fneg n => [word 0xF#4 n 0x4#4 0xD#4]
  | .fsqrt n => [word 0xF#4 n 0x6#4 0xD#4]
  | .fsub m n => [word 0xF#4 n m 0x1#4]
  | .psetmd4 imm => [word 0xF#4 imm 0xD#4 0xD#4]
  | .ftrc m => [word 0xF#4 m 0x3#4 0xD#4]
  | .ldhf16RmFpul m => [word 0x4#4 m 0x7#4 0x1#4]
  | .ldhf16Imm16Fpul imm => [word 0x8#4 0xE#4 (nib3 imm) (nib2 imm), word 0x8#4 0xA#4 (nib1 imm) (nib0 imm)]
  | .ldif16 imm => [word 0x8#4 0xE#4 (nib3 imm) (nib2 imm), word 0x8#4 0xC#4 (nib1 imm) (nib0 imm)]
  | .sthf16 n => [word 0x4#4 n 0x6#4 0x1#4]

/-- The two bytes of a word as they lie in memory, the low one first (20_memory.md R61). -/
def wordBytes (w : Word) : List Byte := [w.extractLsb' 0 8, w.extractLsb' 8 8]

/-- The bytes of a list of words. -/
def wordsBytes : List Word → List Byte
  | [] => []
  | w :: ws => wordBytes w ++ wordsBytes ws

/-- The bytes of an instruction as they lie in memory. -/
def encodeBytes (i : Instr) : List Byte := wordsBytes (encode i)

/-! ## The opcode table's numbering -/

/-- The two words of a table value. spec/opcode_table.json numbers a 32-bit row with its prefix in bits 31:16
(30_encoding.md R91), and a 16-bit row as the word itself. A value whose upper half is no prefix and whose lower half is
one is read in the other order: no listed second word is itself a prefix (log 8). -/
def tableWords (nbits w : Nat) : Word × Word :=
  if nbits ≤ 16 then (BitVec.ofNat 16 w, 0#16)
  else if !isPrefix (BitVec.ofNat 16 (w >>> 16)) && isPrefix (BitVec.ofNat 16 w) then
    (BitVec.ofNat 16 w, BitVec.ofNat 16 (w >>> 16))
  else (BitVec.ofNat 16 (w >>> 16), BitVec.ofNat 16 w)

/-- The bytes of a table value, up to the longest instruction, as they lie in memory. -/
def tableBytes (nbits w : Nat) : List Byte :=
  wordBytes (tableWords nbits w).1 ++ wordBytes (tableWords nbits w).2

/-- The instruction the decoder reads from a value numbered as the opcode table numbers it. -/
def decodeTableWord (nbits w : Nat) : Option Instr :=
  match decode (tableBytes nbits w) with
  | .instr i _ => some i
  | .rejected _ => none

end

end Sys2Proof
end

