-- ==== Sys2Proof/Config.lean ====
section
/-!
DEFINITION. Sys2Proof/Config.lean: the parameters of 00_scope.md R4 to which the spec gives a fixed value, and the
values it leaves open, as constants with no body. The parameters that R4 calls OPEN are data of the launch
(`Launch` in Machine/State.lean).
-/
namespace Sys2Proof.Config

/-- LABEL_SCALE of 00_scope.md R4: bytes for one unit of a label displacement (log 16). -/
def labelScale : Nat := 2
/-- SYSREG_MEM_BYTES of 00_scope.md R4: bytes moved by LDC.L, LDS.L, STC.L, STS.L (log 26). -/
def sysregMemBytes : Nat := 4
/-- Bit positions of the named SR fields (00_scope.md R4; PRESUMED, log 25). -/
def srT : Nat := 0
def srS : Nat := 1
def srQ : Nat := 8
def srM : Nat := 9
def srDq : Nat := 12
def srJq : Nat := 31
/-- Bit positions of the named FPSCR fields (00_scope.md R4; PRESUMED, log 25). RM is bits 1:0. -/
def fpscrPr : Nat := 19
def fpscrSz : Nat := 20
def fpscrFr : Nat := 21

/-- FREE VALUE. The operation width of a launch whose OPW_RULE is not rule R7: whether function `k` of it gives `W` = 64 for
a value of SR and of the form's `q` bit (93_implementation_defined.md U1; log 12). -/
opaque opWide : Nat → DWord → Bool → Bool

/-- The numeric functions of 46_fpu.md R372, by name. -/
inductive FpOp where
  | add | sub | mul | div | sqrt | mac | ipr | eq | gt | fromInt | toInt | widen | narrow | toHalf
  deriving DecidableEq, Repr

/-- FREE VALUE. The undefined values that an instruction writes while the machine goes on, numbered in the order in
which a run draws them (93_implementation_defined.md U4, U5, U11; log 46). -/
opaque freeValue : Nat → QWord

/-- FREE VALUE. A floating-point result that the spec's default numerics leave open: rounding modes 2 and 3, and the
bits of a result that is a NaN (46_fpu.md R372; log 38). The arguments are the function, whether the operands are
Doubles, the rounding mode and the operands. -/
opaque fpOpen : FpOp → Bool → BitVec 2 → List QWord → QWord

/-- FREE VALUE. The arithmetic of a launch whose FP_NUMERICS is not the default: function `k` of it (46_fpu.md R372;
log 37). -/
opaque fpNumeric : Nat → FpOp → Bool → BitVec 2 → List QWord → QWord

/-- FREE VALUE. Whether `fp.mac` of the default numerics rounds the product before it adds
(46_fpu.md R385, 93_implementation_defined.md U10; log 39). -/
opaque macRoundsProduct : Bool

end Sys2Proof.Config
end

