-- ==== Sys2Proof/Machine/State.lean ====
section
/-!
DEFINITION. Sys2Proof/Machine/State.lean: the state of the machine as plain data, every piece of state 10_state.md
names (INVENTORY.md lists them with their rules), the launch parameters of 00_scope.md R4 that the spec leaves OPEN,
the outcomes a step can stop with, and the state after reset.
-/
namespace Sys2Proof.Machine

/-- FPU_PROFILE of 00_scope.md R3, R4. -/
inductive FpuProfile where
  | none | basic | normal
  deriving DecidableEq, Repr

/-- FP_NUMERICS of 00_scope.md R4: the default IEEE 754, or another set of numeric functions, of which nothing is known
(46_fpu.md R372; log 37). -/
inductive FpNumerics where
  | ieee754
  | other (k : Nat)
  deriving DecidableEq, Repr

/-- OPW_RULE of 00_scope.md R4: rule R7, or another function of SR and the form's `q` bit, of which nothing is known
(93_implementation_defined.md U1; log 12). -/
inductive OpwRule where
  | r7
  | other (k : Nat)
  deriving DecidableEq, Repr

/-- TRAP_ENTRY of 00_scope.md R4: what an exception does (60_exceptions.md R434). -/
inductive TrapEntry where
  | vector | fault
  deriving DecidableEq, Repr

/-- When CAS.L checks its write: only when the compare succeeds (43_int_loadstore.md R260), or before either access,
whatever the compare gives (60_exceptions.md R433). The spec does not rank the two rules (log 24). -/
inductive CasCheck where
  | whenEqual | always
  deriving DecidableEq, Repr

/-- One region of MEM_MAP: the addresses from `base` to `base + size - 1` are backed (20_memory.md R67). -/
structure Region where
  base : Nat
  size : Nat
  writable : Bool
  deriving DecidableEq, Repr

/-- What the launch supplies: the parameters of 00_scope.md R4 whose value the spec leaves OPEN or names so that a model
can take another one, and the model's own `casCheck` (log 24). No step changes them (60_exceptions.md R448; log 6). -/
structure Launch where
  vaBits : Nat
  opwRule : OpwRule
  fpuProfile : FpuProfile
  fpNumerics : FpNumerics
  trapEntry : TrapEntry
  srWriteMask : DWord
  srReadMask : DWord
  srEntrySet : DWord
  fpscrVeBit : Option Nat
  vecGeneral : QWord
  vecTlbMiss : QWord
  vecInterrupt : QWord
  jmpJsrDelayed : Bool
  shiftWidthDq0 : Nat
  alignB : Nat
  alignW : Nat
  alignL : Nat
  alignQ : Nat
  casCheck : CasCheck
  memMap : List Region
  resetPc : QWord
  resetSr : DWord
  resetVbr : QWord
  deriving DecidableEq, Repr

/-- The default launch: the defaults of 00_scope.md R4, and for the parameters that have none the values log 2
(RESET_PC, RESET_SR, RESET_VBR) and log 4 (MEM_MAP) name. -/
def Launch.default : Launch where
  vaBits := 64
  opwRule := .r7
  fpuProfile := .normal
  fpNumerics := .ieee754
  trapEntry := .vector
  srWriteMask := 0xF00093F3#32
  srReadMask := 0xF00093F3#32
  srEntrySet := 0x70000000#32
  fpscrVeBit := Option.none
  vecGeneral := 0x100#64
  vecTlbMiss := 0x400#64
  vecInterrupt := 0x600#64
  jmpJsrDelayed := true
  shiftWidthDq0 := 64
  alignB := 1
  alignW := 1
  alignL := 1
  alignQ := 4
  casCheck := .whenEqual
  memMap := [{ base := 0, size := 2 ^ 64, writable := true }]
  resetPc := 0#64
  resetSr := 0x80000000#32
  resetVbr := 0#64

/-- A delayed branch in progress (10_state.md R44): where it goes, and the address of the branch instruction. -/
structure Pending where
  target : QWord
  branchAddr : QWord
  deriving DecidableEq, Repr

/-- The kind of a memory access (20_memory.md R64). -/
inductive AccessKind where
  | fetch | read | write
  deriving DecidableEq, Repr

/-- The exceptions of 60_exceptions.md R430, with the value each one records. -/
inductive Cause where
  | addressError (a : QWord) (kind : AccessKind)
  | illegalInstruction
  | slotIllegalInstruction
  | fpuDisabled
  | trap (imm8 : BitVec 8)
  | breakpoint
  deriving DecidableEq, Repr

/-- The exception record of 60_exceptions.md R436. `branchIa` is the branch's address when the instruction stood in a
delay slot, so `in_slot` is `branchIa.isSome`; `inst` is the instruction value, absent when its fetch failed. -/
structure ExcRecord where
  cause : Cause
  ia : QWord
  branchIa : Option QWord
  inst : Option DWord
  deriving DecidableEq, Repr

/-- The state of the machine. -/
structure State where
  /-- R0..R31 (10_state.md R20). -/
  gpr : Vector QWord 32
  /-- R0B..R7B (10_state.md R22). -/
  bank : Vector QWord 8
  /-- PC (10_state.md R23). -/
  pc : QWord
  /-- The delayed branch in progress (10_state.md R44). -/
  pending : Option Pending
  /-- SR (10_state.md R24). -/
  sr : DWord
  /-- GBR (10_state.md R30). -/
  gbr : QWord
  /-- VBR (10_state.md R31). -/
  vbr : QWord
  /-- SSR (10_state.md R32). -/
  ssr : DWord
  /-- SPC (10_state.md R33). -/
  spc : QWord
  /-- SGR (10_state.md R34). -/
  sgr : QWord
  /-- DBR (10_state.md R35). -/
  dbr : QWord
  /-- MACH (10_state.md R36). -/
  mach : DWord
  /-- MACL (10_state.md R36). -/
  macl : DWord
  /-- PR, the return address (10_state.md R37). -/
  pr : QWord
  /-- FPUL (10_state.md R38). -/
  fpul : DWord
  /-- FPSCR (10_state.md R39). -/
  fpscr : DWord
  /-- FR0..FR15 (10_state.md R40). -/
  fr : Vector DWord 16
  /-- XF0..XF15 (10_state.md R42). -/
  xf : Vector DWord 16
  /-- The sleep state (10_state.md R47). -/
  sleeping : Bool
  /-- Memory: the bytes that hold a value, addresses strictly rising (20_memory.md R60, R62; log 3). -/
  mem : List Host.Cell
  /-- The exception records of the run (60_exceptions.md R436), oldest first. -/
  records : List ExcRecord
  /-- Whether BRK has ended the run (60_exceptions.md R437). -/
  runEnded : Bool
  /-- The model's own: how many undefined values the run has drawn (log 46). -/
  freeIndex : Nat
  /-- The launch parameters (00_scope.md R4), constant during a run. -/
  launch : Launch
  deriving DecidableEq, Repr

/-- How a step stops without a next state. -/
inductive Fault where
  /-- An exception when TRAP_ENTRY is `fault`: the run ends with its record (60_exceptions.md R434, R437). Raised by
  `raise`. Safe: the spec ends the run here. -/
  | exception (r : ExcRecord)
  /-- A read or fetch of memory in which some byte has no value, at this address of the access
  (93_implementation_defined.md U16; log 3). Raised by `load`, `loadTwo` and the fetch. Safe: nothing follows. -/
  | unwritten (a : QWord)
  /-- A step after BRK has ended the run (60_exceptions.md R437; log 33). Raised by `step`. Safe. -/
  | runEnded
  /-- A step after SLEEP (60_exceptions.md R437, R447; log 33). Raised by `step`. Safe. -/
  | sleeping
  deriving DecidableEq, Repr

/-- What the model gives no step, `Refused(ia, reason)` of 60_exceptions.md R432. -/
inductive Refusal where
  /-- An instruction with no meaning in this model. Raised by `exec` only, for arms that have none. Safe. -/
  | notModelled (mnemonic : String)
  /-- LDTLB: no MMU is described (45_int_system.md R338). Raised by its meaning. Safe. -/
  | ldtlb (ia : QWord)
  /-- A write of SR, or an RTE, that would make SR.JQ 0 (10_state.md R28). Raised by LDC, LDC.L, RTE. Safe. -/
  | srJqClear (ia : QWord)
  /-- A state with SR.JQ = 0, the 32-bit mode (00_scope.md section 2, 92_eei_decisions.md D2). Raised by `step`. Safe. -/
  | modeJqClear (ia : QWord)
  /-- A write of FPSCR that sets FR or the declared VE bit (46_fpu.md R370). Raised by LDS, LDS.L, PSETMD4. Safe. -/
  | fpscrUnsupported (ia : QWord)
  /-- An odd register number where a pair is named, in the Basic profile (46_fpu.md R370). Raised by the FPU meanings.
  Safe. -/
  | oddPairBasic (ia : QWord)
  deriving DecidableEq, Repr

/-- The state after reset from a launch and the memory it supplies (10_state.md R48, 70_reset_and_hazards.md R470).
Every register the spec leaves unspecified is 0 (DESIGN CHOICE, unsafe, log 1). -/
def State.resetWith (l : Launch) (image : List Host.Cell) : State where
  gpr := Vector.replicate 32 0#64
  bank := Vector.replicate 8 0#64
  pc := l.resetPc
  pending := Option.none
  sr := l.resetSr
  gbr := 0#64
  vbr := l.resetVbr
  ssr := 0#32
  spc := 0#64
  sgr := 0#64
  dbr := 0#64
  mach := 0#32
  macl := 0#32
  pr := 0#64
  fpul := 0#32
  fpscr := 0#32
  fr := Vector.replicate 16 0#32
  xf := Vector.replicate 16 0#32
  sleeping := false
  mem := image
  records := []
  runEnded := false
  freeIndex := 0
  launch := l

/-- The machine right after reset: the default launch, no program loaded (log 2, log 5). -/
def State.reset : State := State.resetWith Launch.default []

end Sys2Proof.Machine
end

