-- ==== Sys2Proof/Machine/Flags.lean ====
section
/-!
DEFINITION. Sys2Proof/Machine/Flags.lean: the fields of SR and FPSCR, the flag computations of the integer
instructions, and the operation width `W` with its helpers (00_scope.md R7, 10_state.md R24 to R29, R39).
-/
namespace Sys2Proof.Machine

/-! ## Fields of SR and FPSCR -/

/-- A 32-bit value with one bit replaced. -/
def setBitTo (v : DWord) (i : Nat) (b : Bool) : DWord :=
  if b then v ||| (1#32 <<< i) else v &&& ~~~(1#32 <<< i)

/-- SR.T (10_state.md R25). -/
def State.flagT (s : State) : Bool := s.sr.getLsbD Config.srT
/-- SR.S (10_state.md R26). -/
def State.flagS (s : State) : Bool := s.sr.getLsbD Config.srS
/-- SR.Q (10_state.md R27). -/
def State.flagQ (s : State) : Bool := s.sr.getLsbD Config.srQ
/-- SR.M (10_state.md R27). -/
def State.flagM (s : State) : Bool := s.sr.getLsbD Config.srM
/-- SR.DQ (10_state.md R28). -/
def State.flagDq (s : State) : Bool := s.sr.getLsbD Config.srDq
/-- The JQ bit of a value of SR (10_state.md R28). -/
def jqOf (sr : DWord) : Bool := sr.getLsbD Config.srJq

/-- Write SR.T; every other bit of SR is kept. -/
def State.setT (s : State) (b : Bool) : State := { s with sr := setBitTo s.sr Config.srT b }
/-- Write SR.S; every other bit of SR is kept. -/
def State.setS (s : State) (b : Bool) : State := { s with sr := setBitTo s.sr Config.srS b }
/-- Write SR.Q; every other bit of SR is kept. -/
def State.setQ (s : State) (b : Bool) : State := { s with sr := setBitTo s.sr Config.srQ b }
/-- Write SR.M; every other bit of SR is kept. -/
def State.setM (s : State) (b : Bool) : State := { s with sr := setBitTo s.sr Config.srM b }

/-- FPSCR.PR: arithmetic on Doubles (10_state.md R39). -/
def State.fpPr (s : State) : Bool := s.fpscr.getLsbD Config.fpscrPr
/-- FPSCR.SZ: FMOV moves pairs (10_state.md R39). -/
def State.fpSz (s : State) : Bool := s.fpscr.getLsbD Config.fpscrSz
/-- FPSCR.RM, the rounding mode, bits 1:0 (10_state.md R39). -/
def State.fpRm (s : State) : BitVec 2 := s.fpscr.extractLsb' 0 2

/-- Whether a value of FPSCR sets a bit the spec does not support: FR, or the bit the launch has declared to be VE
(46_fpu.md R370, log 29). -/
def fpscrBad (l : Launch) (v : DWord) : Bool :=
  v.getLsbD Config.fpscrFr || (match l.fpscrVeBit with
    | some i => v.getLsbD i
    | none => false)

/-! ## The operation width -/

/-- OPW_RULE of 00_scope.md R4: whether `W` is 64, as a function of SR and the form's `q` bit. Rule R7 says when `q` or
SR.DQ is 1 (93_implementation_defined.md U1; log 12). -/
def OpwRule.wide (w : OpwRule) (sr : DWord) (q : Bool) : Bool :=
  match w with
  | .r7 => q || sr.getLsbD Config.srDq
  | .other k => Config.opWide k sr q

/-- `W`, the operation width of an integer instruction with no size suffix (00_scope.md R7; log 12). -/
def State.width (s : State) (q : Bool) : Nat := if s.launch.opwRule.wide s.sr q then 64 else 32

/-- `lowW` of 00_scope.md R7. -/
def lowW (W : Nat) (v : QWord) : BitVec W := v.setWidth W

/-- `wb` of 00_scope.md R7: the result written, sign-extended from `W` bits. -/
def wb {W : Nat} (r : BitVec W) : QWord := r.signExtend 64

/-! ## Sums and differences with their flags -/

/-- Sum with carry in, and the carry out of bit W-1 (40_int_arith_compare.md R143). -/
def addcW (W : Nat) (a b : QWord) (c : Bool) : QWord × Bool :=
  let t := (lowW W a).toNat + (lowW W b).toNat + c.toNat
  (wb (BitVec.ofNat W t), decide (2 ^ W ≤ t))

/-- Difference with borrow in, and whether the exact difference is negative (40_int_arith_compare.md R165, R168). -/
def subcW (W : Nat) (a b : QWord) (c : Bool) : QWord × Bool :=
  let t : Int := (lowW W a).toNat - (lowW W b).toNat - (c.toNat : Int)
  (wb (BitVec.ofInt W t), decide (t < 0))

/-- Whether an integer lies outside the signed range of W bits (40_int_arith_compare.md R144). -/
def outsideSigned (W : Nat) (i : Int) : Bool := decide (i < -2 ^ (W - 1)) || decide (2 ^ (W - 1) - 1 < i)

/-- Sum with its signed overflow (40_int_arith_compare.md R144). -/
def addvW (W : Nat) (a b : QWord) : QWord × Bool :=
  let t := (lowW W a).toInt + (lowW W b).toInt
  (wb (BitVec.ofInt W t), outsideSigned W t)

/-- Difference with its signed overflow (40_int_arith_compare.md R169). -/
def subvW (W : Nat) (a b : QWord) : QWord × Bool :=
  let t := (lowW W a).toInt - (lowW W b).toInt
  (wb (BitVec.ofInt W t), outsideSigned W t)

/-! ## Compares -/

/-- Equality of the low W bits (40_int_arith_compare.md R145). -/
def eqW (W : Nat) (a b : QWord) : Bool := lowW W a == lowW W b
/-- Signed `a ≥ b` (40_int_arith_compare.md R147). -/
def geW (W : Nat) (a b : QWord) : Bool := decide ((lowW W b).toInt ≤ (lowW W a).toInt)
/-- Signed `a > b` (40_int_arith_compare.md R148). -/
def gtW (W : Nat) (a b : QWord) : Bool := decide ((lowW W b).toInt < (lowW W a).toInt)
/-- Unsigned `a > b` (40_int_arith_compare.md R149). -/
def hiW (W : Nat) (a b : QWord) : Bool := decide ((lowW W b).toNat < (lowW W a).toNat)
/-- Unsigned `a ≥ b` (40_int_arith_compare.md R150). -/
def hsW (W : Nat) (a b : QWord) : Bool := decide ((lowW W b).toNat ≤ (lowW W a).toNat)
/-- Whether the bitwise AND of the low W bits is zero (41_int_logic_move.md R199). -/
def tstW (W : Nat) (a b : QWord) : Bool := lowW W a &&& lowW W b == 0

/-! ## Unflagged results -/

/-- `a + b` modulo 2^W (40_int_arith_compare.md R140). -/
def addW (W : Nat) (a b : QWord) : QWord := wb (lowW W a + lowW W b)
/-- `a - b` modulo 2^W (40_int_arith_compare.md R166). -/
def subW (W : Nat) (a b : QWord) : QWord := wb (lowW W a - lowW W b)
/-- The low W bits of the product (40_int_arith_compare.md R160). -/
def mulW (W : Nat) (a b : QWord) : QWord := wb (lowW W a * lowW W b)
/-- `0 - a` modulo 2^W (40_int_arith_compare.md R164). -/
def negW (W : Nat) (a : QWord) : QWord := wb (-(lowW W a))
/-- Bitwise AND (41_int_logic_move.md R180). -/
def andW (W : Nat) (a b : QWord) : QWord := wb (lowW W a &&& lowW W b)
/-- Bitwise OR (41_int_logic_move.md R194). -/
def orW (W : Nat) (a b : QWord) : QWord := wb (lowW W a ||| lowW W b)
/-- Bitwise XOR (41_int_logic_move.md R201). -/
def xorW (W : Nat) (a b : QWord) : QWord := wb (lowW W a ^^^ lowW W b)
/-- Bitwise NOT (41_int_logic_move.md R193). -/
def notW (W : Nat) (a : QWord) : QWord := wb (~~~(lowW W a))

/-! ## One-bit shifts and rotates, with the bit shifted out -/

/-- Shift left by one, a given bit entering at bit 0: SHAL, SHLL, ROTL, ROTCL (42_int_shift.md R222, R224, R228, R234). -/
def shiftLeft1 (W : Nat) (a : QWord) (bit : Bool) : QWord × Bool :=
  (wb ((lowW W a <<< 1) ||| BitVec.ofNat W bit.toNat), (lowW W a).getLsbD (W - 1))

/-- Shift right by one, a given bit entering at bit W-1: SHAR, SHLR, ROTR, ROTCR (42_int_shift.md R223, R225, R230,
R241). -/
def shiftRight1 (W : Nat) (a : QWord) (bit : Bool) : QWord × Bool :=
  (wb ((lowW W a >>> 1) ||| (BitVec.ofNat W bit.toNat <<< (W - 1))), (lowW W a).getLsbD 0)

/-- Bit W-1 of the low W bits. -/
def topBit (W : Nat) (a : QWord) : Bool := (lowW W a).getLsbD (W - 1)
/-- Bit 0. -/
def lowBit (a : QWord) : Bool := a.getLsbD 0

/-- The fixed left shifts by 2, 4, 8, 16 (42_int_shift.md R236 to R239). -/
def shiftLeftW (W : Nat) (a : QWord) (k : Nat) : QWord := wb (lowW W a <<< k)
/-- The fixed logical right shifts by 2, 4, 8, 16 (42_int_shift.md R243 to R246). -/
def shiftRightW (W : Nat) (a : QWord) (k : Nat) : QWord := wb (lowW W a >>> k)

/-! ## Fields of a value -/

/-- The low Byte. -/
def lowByte (v : QWord) : Byte := v.setWidth 8
/-- The low Word. -/
def lowWord (v : QWord) : Word := v.setWidth 16
/-- The low DWord. -/
def lowDword (v : QWord) : DWord := v.setWidth 32

/-! ## Barrel shifts -/

/-- SHAD shifts arithmetically, SHLD logically (42_int_shift.md R220). -/
inductive ShiftKind where
  | arith | logic
  deriving DecidableEq, Repr

/-- `Barrel` of 42_int_shift.md R220: `dq` is SR.DQ or the form's `q`, `width0` is SHIFT_WIDTH_DQ0 (log 13). -/
def barrelShift (kind : ShiftKind) (dq : Bool) (width0 : Nat) (src amt : QWord) : QWord :=
  let inp : QWord := if dq then src else match kind with
    | .arith => (src.setWidth 32).signExtend 64
    | .logic => (src.setWidth 32).setWidth 64
  let sh : Int := if dq then amt.toInt else (amt.setWidth 32).toInt
  let width : Nat := if dq then 64 else width0
  let k : Nat := (sh % (width : Int)).toNat
  if 0 ≤ sh then inp <<< k
  else if k ≠ 0 then match kind with
    | .arith => inp.sshiftRight (width - k)
    | .logic => inp >>> (width - k)
  else match kind with
    | .arith => if inp.msb then BitVec.allOnes 64 else 0#64
    | .logic => 0#64

/-- The barrel shift of a form with this `q` bit. -/
def State.barrel (s : State) (kind : ShiftKind) (q : Bool) (src amt : QWord) : QWord :=
  barrelShift kind (q || s.flagDq) s.launch.shiftWidthDq0 src amt

/-- The negated amount of SHAR and SHLR with a separate destination (42_int_shift.md R231). -/
def State.negAmount (s : State) (q : Bool) (amt : QWord) : QWord :=
  if q || s.flagDq then -amt else (-(amt.setWidth 32)).setWidth 64

/-! ## The division step -/

/-- What one DIV1 step gives: the new low half of R4, SR.Q and SR.T (40_int_arith_compare.md R155). -/
structure DivStep where
  result : DWord
  q : Bool
  t : Bool
  deriving DecidableEq, Repr

/-- DIV1 on the low halves of R4 and R5, with SR.Q, SR.M, SR.T (40_int_arith_compare.md R155). -/
def divStep (a b : DWord) (q0 m0 t0 : Bool) : DivStep :=
  let q1 := a.getLsbD 31
  let dn1 : DWord := (a <<< 1) ||| BitVec.ofNat 32 t0.toNat
  let dn2 : BitVec 33 := if q0 == m0 then dn1.setWidth 33 - b.setWidth 33 else dn1.setWidth 33 + b.setWidth 33
  let c0 := dn2.getLsbD 32
  let q2 := (q1 ^^ m0) ^^ c0
  { result := dn2.setWidth 32, q := q2, t := !(q2 ^^ m0) }

end Sys2Proof.Machine
end

