-- ==== Sys2Proof/Machine/Memory.lean ====
section
/-!
DEFINITION. Sys2Proof/Machine/Memory.lean: memory as a list of (address, byte) pairs in one canonical form, and its
little-endian reads and writes (20_memory.md R60 to R62). An address that is not listed holds no value (log 3), so no
entry can equal what an unlisted address reads as.
-/
namespace Sys2Proof.Machine

/-- The byte at an address, if it holds a value. -/
def memGet : List Host.Cell → Nat → Option Byte
  | [], _ => none
  | c :: rest, a => if a = c.1 then some c.2 else memGet rest a

/-- Write one byte, keeping the addresses strictly rising. -/
def memSet : List Host.Cell → Nat → Byte → List Host.Cell
  | [], a, v => [(a, v)]
  | c :: rest, a, v =>
    if a < c.1 then (a, v) :: c :: rest
    else if a = c.1 then (a, v) :: rest
    else c :: memSet rest a v

/-- The canonical form: addresses strictly rising and below 2^64. -/
def memWf : List Host.Cell → Bool
  | [] => true
  | [c] => decide (c.1 < 2 ^ 64)
  | c :: d :: rest => decide (c.1 < d.1) && memWf (d :: rest)

/-- The value of `n` bytes from address `a` on, little endian, if every one holds a value (20_memory.md R61, R62). -/
def memRead (m : List Host.Cell) : Nat → Nat → Option Nat
  | _, 0 => some 0
  | a, n + 1 =>
    match memGet m a, memRead m (a + 1) n with
    | some b, some v => some (b.toNat + 256 * v)
    | _, _ => none

/-- Write the low `n` bytes of `v` from address `a` on, little endian (20_memory.md R62). -/
def memWrite : List Host.Cell → Nat → Nat → Nat → List Host.Cell
  | m, _, 0, _ => m
  | m, a, n + 1, v => memWrite (memSet m a (BitVec.ofNat 8 v)) (a + 1) n (v / 256)

end Sys2Proof.Machine
end

