-- ==== Sys2Proof/Machine/Ops.lean ====
section
/-!
DEFINITION. Sys2Proof/Machine/Ops.lean: the named operations over registers and memory, advancing past an instruction,
the delayed branch, taking an exception (60_exceptions.md R434) and the return from one (45_int_system.md R340).
-/
namespace Sys2Proof.Machine

/-- What a meaning answers. -/
abbrev Result := Host.Outcome State Fault Refusal

/-! ## Registers -/

/-- R0..R15 by the 4-bit field of a 16-bit or `8E` form (10_state.md R20). -/
def lo (r : Nibble) : BitVec 5 := 0#1 ++ r
/-- R16..R31 by the 4-bit field of a form that reaches the upper half (30_encoding.md R97, R99). -/
def hi (r : Nibble) : BitVec 5 := 1#1 ++ r
/-- R15, the stack pointer (10_state.md R21; log 22). -/
def regSp : BitVec 5 := 15#5

/-- Read a general register (00_scope.md R6). -/
def State.reg (s : State) (r : BitVec 5) : QWord := s.gpr[r.toNat]'r.isLt
/-- Write a general register; none is hard-wired (10_state.md R20). -/
def State.setReg (s : State) (r : BitVec 5) (v : QWord) : State := { s with gpr := s.gpr.set r.toNat v r.isLt }
/-- Read a banked register (10_state.md R22). -/
def State.bankReg (s : State) (b : BitVec 3) : QWord := s.bank[b.toNat]'b.isLt
/-- Write a banked register (10_state.md R22). -/
def State.setBankReg (s : State) (b : BitVec 3) (v : QWord) : State :=
  { s with bank := s.bank.set b.toNat v b.isLt }

/-- Read FRn (46_fpu.md R371, `S(r)`). -/
def State.frReg (s : State) (r : Nibble) : DWord := s.fr[r.toNat]'r.isLt
/-- Write FRn. -/
def State.setFrReg (s : State) (r : Nibble) (v : DWord) : State := { s with fr := s.fr.set r.toNat v r.isLt }
/-- The number of the high half of pair `r`: the even register (10_state.md R41). -/
def pairHigh (r : Nibble) : Nibble := r &&& 0xE#4
/-- The number of the low half of pair `r`: the odd register (10_state.md R41). -/
def pairLow (r : Nibble) : Nibble := r ||| 0x1#4
/-- Read the pair `P(r)`: DRr for even r, XD(r-1) for odd r (46_fpu.md R371). -/
def State.pair (s : State) (r : Nibble) : QWord :=
  if r.getLsbD 0 then s.xf[(pairHigh r).toNat]'(pairHigh r).isLt ++ s.xf[(pairLow r).toNat]'(pairLow r).isLt
  else s.fr[(pairHigh r).toNat]'(pairHigh r).isLt ++ s.fr[(pairLow r).toNat]'(pairLow r).isLt
/-- Both halves of a pair written into a bank of registers. -/
def setPairIn (v : Vector DWord 16) (r : Nibble) (d : QWord) : Vector DWord 16 :=
  (v.set (pairHigh r).toNat (d.extractLsb' 32 32) (pairHigh r).isLt).set (pairLow r).toNat (d.extractLsb' 0 32)
    (pairLow r).isLt
/-- Write the pair `P(r)` (46_fpu.md R371). -/
def State.setPair (s : State) (r : Nibble) (d : QWord) : State :=
  if r.getLsbD 0 then { s with xf := setPairIn s.xf r d } else { s with fr := setPairIn s.fr r d }

/-! ## Advancing -/

/-- The two lengths of an instruction (30_encoding.md R90). -/
inductive Len where
  | short | long
  deriving DecidableEq, Repr

/-- A length in bytes. -/
def Len.bytes : Len → Nat
  | .short => 2
  | .long => 4

/-- The instruction is done: the next one is the delayed branch's target when this one stood in the slot, else the
following one (44_int_branch.md R300, 10_state.md R23). -/
def State.retire (s : State) (l : Len) : State :=
  match s.pending with
  | some p => { s with pc := p.target, pending := none }
  | none => { s with pc := s.pc + BitVec.ofNat 64 l.bytes }

/-- A branch with no delay slot: the next instruction is the one at `t` (00_scope.md R6). -/
def State.jumpTo (s : State) (t : QWord) : State := { s with pc := t }

/-- `delayed(t)` of 44_int_branch.md R300. -/
def State.delayed (s : State) (l : Len) (t : QWord) : State :=
  { s with pending := some { target := t, branchAddr := s.pc }, pc := s.pc + BitVec.ofNat 64 l.bytes }

/-! ## The address space -/

/-- The size of the address space: VA_BITS bits of an address are significant, of its 64 (20_memory.md R60; log 7). -/
def Launch.space (l : Launch) : Nat := 2 ^ min l.vaBits 64
/-- The byte of memory that an address names, by its significant bits (20_memory.md R60; log 7). -/
def Launch.locate (l : Launch) (a : QWord) : Nat := a.toNat % l.space

/-! ## Taking an exception -/

/-- The instruction value at PC, a prefix in bits 31:16, for the exception record (60_exceptions.md R436; log 32). -/
def State.instAt (s : State) : Option DWord :=
  match memRead s.mem (s.launch.locate s.pc) 2 with
  | none => none
  | some w1 =>
    if isPrefix (BitVec.ofNat 16 w1) then
      match memRead s.mem (s.launch.locate (s.pc + 2#64)) 2 with
      | none => none
      | some w2 => some (BitVec.ofNat 16 w1 ++ BitVec.ofNat 16 w2)
    else some (BitVec.ofNat 32 w1)

/-- The exception record of 60_exceptions.md R436. -/
def State.excRecord (s : State) (c : Cause) (inst : Option DWord) : ExcRecord where
  cause := c
  ia := s.pc
  branchIa := s.pending.map Pending.branchAddr
  inst := inst

/-- `ret` of 60_exceptions.md R434: what SPC receives. -/
def State.returnAddr (s : State) : Cause → QWord
  | .trap _ => s.pc + 2#64
  | _ => match s.pending with
    | some p => p.branchAddr
    | none => s.pc

/-- Stage 2 of 60_exceptions.md R434: SPC, SSR and SGR saved, SR_ENTRY_SET set in SR, a delayed branch cancelled, PC at
VBR + VEC_GENERAL; and the record of stage 1. Nothing else changes (log 31). -/
def State.enterTrap (s : State) (c : Cause) (inst : Option DWord) : State :=
  { s with
    records := s.records ++ [s.excRecord c inst]
    spc := s.returnAddr c
    ssr := s.sr
    sgr := s.reg regSp
    sr := s.sr ||| s.launch.srEntrySet
    pending := none
    pc := s.vbr + s.launch.vecGeneral }

/-- Take an exception (60_exceptions.md R434). A breakpoint ends the run normally with every register and memory as it
was (R437); any other exception enters the handler, or ends the run when TRAP_ENTRY is `fault`. -/
def raiseWith (c : Cause) (inst : Option DWord) (s : State) : Result :=
  match c with
  | .breakpoint => .next { s with records := s.records ++ [s.excRecord c inst], runEnded := true }
  | _ => match s.launch.trapEntry with
    | .vector => .next (s.enterTrap c inst)
    | .fault => .fault (.exception (s.excRecord c inst))

/-- Take an exception of the instruction at PC. -/
def raise (c : Cause) (s : State) : Result := raiseWith c s.instAt s

/-- Take the exception of a failed fetch of the word at `a` (20_memory.md R74): the record has no instruction value. -/
def raiseFetch (a : QWord) (s : State) : Result := raiseWith (.addressError a .fetch) none s

/-- Return from an exception, RTE (45_int_system.md R340): SR and R15 are restored before the delay slot. -/
def returnFromException (s : State) : Result :=
  if jqOf s.ssr then .next (({ s with sr := s.ssr }.setReg regSp s.sgr).delayed .short s.spc)
  else .refused (.srJqClear s.pc)

/-! ## The delay slot -/

/-- Whether the instruction at PC stands in a delay slot (10_state.md R44). -/
def State.inSlot (s : State) : Bool := s.pending.isSome

/-- A form that 44_int_branch.md R300 refuses in a delay slot. -/
def notInSlot (s : State) (k : Result) : Result := if s.inSlot then raise .slotIllegalInstruction s else k

/-- Every 32-bit form is refused in a delay slot (44_int_branch.md R300). -/
def inForm (l : Len) (s : State) (k : Result) : Result :=
  match l with
  | .short => k
  | .long => notInSlot s k

/-! ## Memory -/

/-- Whether MEM_MAP backs an address (20_memory.md R67). -/
def Region.backs (r : Region) (a : Nat) : Bool := decide (r.base ≤ a) && decide (a < r.base + r.size)
/-- Whether an access of this kind may touch the byte at an address (20_memory.md R67). -/
def Launch.allows (l : Launch) (kind : AccessKind) (a : Nat) : Bool :=
  l.memMap.any fun r => r.backs a && (decide (kind ≠ .write) || r.writable)
/-- The alignment a data access of `n` bytes needs (20_memory.md R63). -/
def Launch.align (l : Launch) (n : Nat) : Nat :=
  if n = 1 then l.alignB else if n = 2 then l.alignW else if n = 4 then l.alignL else l.alignQ
/-- The part of `check` that MEM_MAP decides: no wrap past the top of the address space, every byte backed
(20_memory.md R67; log 7). -/
def Launch.mapped (l : Launch) (kind : AccessKind) (a : QWord) (n : Nat) : Bool :=
  decide (l.locate a + n ≤ l.space) && (List.range n).all fun i => l.allows kind (l.locate a + i)

/-- `check(a, n, kind)` of 20_memory.md R62, R63, R64, R67. -/
def State.accessOk (s : State) (kind : AccessKind) (a : QWord) (n : Nat) : Bool :=
  decide (a.toNat % s.launch.align n = 0) && s.launch.mapped kind a n

/-- `MemRead(a, n)` of 20_memory.md R62, then the rest of the instruction with the value read. -/
def load (a : QWord) (n : Nat) (s : State) (k : Nat → Result) : Result :=
  if s.accessOk .read a n then
    match memRead s.mem (s.launch.locate a) n with
    | some v => k v
    | none => .fault (.unwritten a)
  else raise (.addressError a .read) s

/-- A state with `n` bytes of memory written. -/
def State.writeMem (s : State) (a : QWord) (n v : Nat) : State :=
  { s with mem := memWrite s.mem (s.launch.locate a) n v }

/-- `MemWrite(a, n, v)` of 20_memory.md R62, then the rest of the instruction in the state after the write. -/
def store (a : QWord) (n v : Nat) (s : State) (k : State → Result) : Result :=
  if s.accessOk .write a n then k (s.writeMem a n v) else raise (.addressError a .write) s

/-! ## The FPU -/

/-- With FPU_PROFILE None the instruction raises FpuDisabled (46_fpu.md R370, 60_exceptions.md R435). -/
def fpuGuard (s : State) (k : Result) : Result :=
  if s.launch.fpuProfile = .none then raise .fpuDisabled s else k

/-- An encoding that is not an instruction under the current mode (46_fpu.md R371, 60_exceptions.md R430). -/
def raiseIllegal (s : State) : Result :=
  raise (if s.inSlot then .slotIllegalInstruction else .illegalInstruction) s

/-- Whether `r` names a pair of the profile: an odd number names an XD register, which Basic lacks (46_fpu.md R370). -/
def State.pairOk (s : State) (r : Nibble) : Bool := !r.getLsbD 0 || decide (s.launch.fpuProfile ≠ .basic)

/-- A pair operand of the Basic profile with an odd number is refused (46_fpu.md R370). -/
def needPair (r : Nibble) (s : State) (k : Result) : Result :=
  if s.pairOk r then k else .refused (.oddPairBasic s.pc)

/-! ## Free values -/

/-- The next undefined value (log 46). -/
def State.freeNow (s : State) : QWord := Config.freeValue s.freeIndex
/-- One undefined value has been drawn (log 46). -/
def State.drawn (s : State) : State := { s with freeIndex := s.freeIndex + 1 }

end Sys2Proof.Machine
end

