-- ==== Sys2Proof/Machine/Operands.lean ====
section
/-!
DEFINITION. Sys2Proof/Machine/Operands.lean: the operand forms: immediates (30_encoding.md R100), displacements (R102),
labels (R103), the PC operand (R104), the addressing modes (R105 to R112), the extension of a loaded value
(43_int_loadstore.md R281), and the shapes of instruction that the meanings share.
-/
namespace Sys2Proof.Machine

/-! ## Immediates -/

/-- A zero-extended immediate (30_encoding.md R100). -/
def zeroExt {w : Nat} (v : BitVec w) : QWord := v.setWidth 64
/-- A sign-extended immediate (30_encoding.md R100). -/
def signExt {w : Nat} (v : BitVec w) : QWord := v.signExtend 64
/-- An immediate extended with ones: the field minus 2^w (30_encoding.md R100). -/
def onesExt {w : Nat} (v : BitVec w) : QWord := BitVec.ofInt 64 ((v.toNat : Int) - 2 ^ w)

/-! ## Sizes -/

/-- The access sizes of the suffixes .B, .W, .L, .Q (00_scope.md R5). -/
inductive Size where
  | b | w | l | q
  deriving DecidableEq, Repr

/-- A size in bytes. -/
def Size.bytes : Size → Nat
  | .b => 1
  | .w => 2
  | .l => 4
  | .q => 8

/-- A size as an address increment or scale. -/
def Size.scale (z : Size) : QWord := BitVec.ofNat 64 z.bytes

/-- `sext_64` of a loaded value (43_int_loadstore.md R281). -/
def loadSigned : Size → Nat → QWord
  | .b, v => (BitVec.ofNat 8 v).signExtend 64
  | .w, v => (BitVec.ofNat 16 v).signExtend 64
  | .l, v => (BitVec.ofNat 32 v).signExtend 64
  | .q, v => BitVec.ofNat 64 v

/-- `zext_64` of a loaded value (43_int_loadstore.md R281). -/
def loadUnsigned (_ : Size) (v : Nat) : QWord := BitVec.ofNat 64 v

/-! ## Addresses -/

/-- The PC operand value: `ia + len + 2` (30_encoding.md R104). -/
def State.pcOperand (s : State) (l : Len) : QWord := s.pc + BitVec.ofNat 64 (l.bytes + 2)
/-- The PC operand of MOVA and `MOV.L @(PC, disp8)`: its low two bits cleared (30_encoding.md R109). -/
def State.pcOperandAligned (s : State) : QWord := s.pcOperand .short &&& ~~~3#64
/-- The target of a label (30_encoding.md R103). -/
def State.labelTarget {w : Nat} (s : State) (l : Len) (label : BitVec w) : QWord :=
  s.pcOperand l + BitVec.ofNat 64 Config.labelScale * signExt label
/-- `@(R0, Rm)` (30_encoding.md R108). -/
def State.eaR0 (s : State) (r : BitVec 5) : QWord := s.reg 0#5 + s.reg r
/-- `@(PC, R0)`, all of whose forms are 16-bit (30_encoding.md R109). -/
def State.eaPcR0 (s : State) : QWord := s.pcOperand .short + s.reg 0#5
/-- `@(PC, disp8)` of MOV.W (30_encoding.md R109). -/
def State.eaPcDispW (s : State) (disp : BitVec 8) : QWord := s.pcOperand .short + Size.w.scale * zeroExt disp
/-- `@(PC, disp8)` of MOV.L, and what MOVA computes (30_encoding.md R109). -/
def State.eaPcDispL (s : State) (disp : BitVec 8) : QWord := s.pcOperandAligned + Size.l.scale * zeroExt disp
/-- `@(Rm, disp)` with the displacement already extended (30_encoding.md R111). -/
def State.eaDisp (s : State) (z : Size) (r : BitVec 5) (disp : QWord) : QWord := s.reg r + z.scale * disp
/-- `@(Rm, Ro, disp)`: R15 as Ro indexes with 0, R0 as Ro makes the scale 1 (30_encoding.md R112). -/
def State.eaIndex (s : State) (z : Size) (base o : BitVec 5) (disp : QWord) : QWord :=
  let idx : QWord := if o = 15#5 then 0#64 else s.reg o
  let scale : QWord := if o = 0#5 then 1#64 else z.scale
  s.reg base + (idx + disp) * scale

/-! ## Shapes of instruction -/

/-- An instruction that writes one register. -/
def writeReg (l : Len) (d : BitVec 5) (v : QWord) (s : State) : Result :=
  inForm l s (.next ((s.setReg d v).retire l))
/-- An instruction that writes SR.T. -/
def writeT (l : Len) (t : Bool) (s : State) : Result := inForm l s (.next ((s.setT t).retire l))
/-- An instruction that writes one register and SR.T. -/
def writeRegT (l : Len) (d : BitVec 5) (r : QWord × Bool) (s : State) : Result :=
  inForm l s (.next (((s.setReg d r.1).setT r.2).retire l))

/-- A load (43_int_loadstore.md R280). -/
def loadReg (l : Len) (z : Size) (ext : Size → Nat → QWord) (ea : QWord) (d : BitVec 5) (s : State) : Result :=
  inForm l s (load ea z.bytes s fun v => .next ((s.setReg d (ext z v)).retire l))
/-- A load from `@Rm+`: the base is increased first, so that the loaded value stays when the registers are the same
(43_int_loadstore.md R280, 30_encoding.md R106). -/
def loadRegInc (z : Size) (ext : Size → Nat → QWord) (m d : BitVec 5) (s : State) : Result :=
  load (s.reg m) z.bytes s fun v =>
    .next (((s.setReg m (s.reg m + z.scale)).setReg d (ext z v)).retire .short)
/-- A store (43_int_loadstore.md R280). -/
def storeReg (l : Len) (z : Size) (ea : QWord) (m : BitVec 5) (s : State) : Result :=
  inForm l s (store ea z.bytes (s.reg m).toNat s fun t => .next (t.retire l))
/-- A store to `@-Rn` of a value read before the decrement (43_int_loadstore.md R280, 30_encoding.md R107). -/
def storeDec (n : BitVec 5) (bytes : Nat) (v : QWord) (s : State) : Result :=
  store (s.reg n - BitVec.ofNat 64 bytes) bytes v.toNat s fun t =>
    .next ((t.setReg n (s.reg n - BitVec.ofNat 64 bytes)).retire .short)

/-- LEA with an index register: with Ro = R0 or R15 the result is undefined and a free value is written
(43_int_loadstore.md R261 to R264; log 43). -/
def leaIndex (l : Len) (z : Size) (m o : BitVec 5) (disp : QWord) (d : BitVec 5) (s : State) : Result :=
  inForm l s
    (if o = 0#5 ∨ o = 15#5 then .next ((s.drawn.setReg d s.freeNow).retire l)
     else .next ((s.setReg d (s.reg m + (s.reg o + disp) * z.scale)).retire l))

/-- A load of a control or system register from `@Rm+`: SYSREG_MEM_BYTES bytes, then the base is increased, then the
register is written (45_int_system.md R335, R337). -/
def loadSys (m : BitVec 5) (write : DWord → State → State) (s : State) : Result :=
  load (s.reg m) Config.sysregMemBytes s fun v =>
    .next ((write (BitVec.ofNat 32 v)
      (s.setReg m (s.reg m + BitVec.ofNat 64 Config.sysregMemBytes))).retire .short)

/-- A load of SR or FPSCR from `@Rm+`, refused for the values the spec refuses: after the address check and before the
base is written (45_int_system.md R335, R337). -/
def loadSysChecked (m : BitVec 5) (bad : DWord → Bool) (why : Refusal) (write : DWord → State → State) (s : State) :
    Result :=
  load (s.reg m) Config.sysregMemBytes s fun v =>
    if bad (BitVec.ofNat 32 v) then .refused why
    else .next ((write (BitVec.ofNat 32 v)
      (s.setReg m (s.reg m + BitVec.ofNat 64 Config.sysregMemBytes))).retire .short)

/-- A store of the low half of a control or system register to `@-Rn` (45_int_system.md R345, R347). -/
def storeSys (n : BitVec 5) (v : QWord) (s : State) : Result := storeDec n Config.sysregMemBytes v s

/-- A conditional branch with no delay slot (44_int_branch.md R301, R309). -/
def branchIf {w : Nat} (l : Len) (cond : Bool) (label : BitVec w) (s : State) : Result :=
  notInSlot s (.next (if cond then s.jumpTo (s.labelTarget l label) else s.retire l))

/-- A conditional branch with a delay slot; the slot executes either way (44_int_branch.md R300, R302, R310). -/
def branchIfDelayed {w : Nat} (l : Len) (cond : Bool) (label : BitVec w) (s : State) : Result :=
  notInSlot s (.next (s.delayed l (if cond then s.labelTarget l label else s.pcOperand l)))

end Sys2Proof.Machine
end

