-- ==== Sys2Proof/Machine/Branch.lean ====
section
/-!
DEFINITION. Sys2Proof/Machine/Branch.lean: the branches, calls and returns (44_int_branch.md), one meaning for each row.
Sources come first and the destination last, as in the listings; `lo` and `hi` place a 4-bit register field.
-/
namespace Sys2Proof.Machine

/-- `8Bdd` BF label8s: R301. -/
def execBfLabel8s (label : BitVec 8) (s : State) : Result := branchIf .short (!s.flagT) label s

/-- `8Edd-8Bdd` BF label16s: R301. -/
def execBfLabel16s (label : BitVec 16) (s : State) : Result := branchIf .long (!s.flagT) label s

/-- `8Fdd` BF/S label8s: R302. -/
def execBfSLabel8s (label : BitVec 8) (s : State) : Result := branchIfDelayed .short (!s.flagT) label s

/-- `8Edd-8Fdd` BF/S label16s: R302. -/
def execBfSLabel16s (label : BitVec 16) (s : State) : Result := branchIfDelayed .long (!s.flagT) label s

/-- `Addd` BRA label12s: R303. -/
def execBra (label : BitVec 12) (s : State) : Result :=
  notInSlot s (.next (s.delayed .short (s.labelTarget .short label)))

/-- `0n23` BRAF Rn: R304. -/
def execBraf (n : BitVec 4) (s : State) : Result :=
  notInSlot s (.next (s.delayed .short (s.pcOperand .short + s.reg (lo n))))

/-- `82dd` BRA/N label8s: R305. -/
def execBraNLabel8s (label : BitVec 8) (s : State) : Result :=
  notInSlot s (.next (s.jumpTo (s.labelTarget .short label)))

/-- `8Edd-82dd` BRA/N label16s: R305. -/
def execBraNLabel16s (label : BitVec 16) (s : State) : Result :=
  notInSlot s (.next (s.jumpTo (s.labelTarget .long label)))

/-- `Bddd` BSR label12s: R306. -/
def execBsr (label : BitVec 12) (s : State) : Result :=
  notInSlot s (.next ({ s with pr := s.pc + 4#64 }.delayed .short (s.labelTarget .short label)))

/-- `0n03` BSRF Rn: R307. -/
def execBsrf (n : BitVec 4) (s : State) : Result :=
  notInSlot s (.next ({ s with pr := s.pc + 4#64 }.delayed .short (s.pcOperand .short + s.reg (lo n))))

/-- `8Edd-83dd` BSR/N label16s: R308. -/
def execBsrN (label : BitVec 16) (s : State) : Result :=
  notInSlot s (.next ({ s with pr := s.pc + 4#64 }.jumpTo (s.labelTarget .long label)))

/-- `89dd` BT label8s: R309. -/
def execBtLabel8s (label : BitVec 8) (s : State) : Result := branchIf .short s.flagT label s

/-- `8Edd-89dd` BT label16s: R309. -/
def execBtLabel16s (label : BitVec 16) (s : State) : Result := branchIf .long s.flagT label s

/-- `8Ddd` BT/S label8s: R310. -/
def execBtSLabel8s (label : BitVec 8) (s : State) : Result := branchIfDelayed .short s.flagT label s

/-- `8Edd-8Ddd` BT/S label16s: R310. -/
def execBtSLabel16s (label : BitVec 16) (s : State) : Result := branchIfDelayed .long s.flagT label s

/-- `4n2B` JMP Rn: R311. -/
def execJmp (n : BitVec 4) (s : State) : Result :=
  notInSlot s (.next (if s.launch.jmpJsrDelayed then s.delayed .short (s.reg (lo n)) else s.jumpTo (s.reg (lo n))))

/-- `4n0B` JSR Rn: R312. -/
def execJsr (n : BitVec 4) (s : State) : Result :=
  notInSlot s (.next
    (if s.launch.jmpJsrDelayed then { s with pr := s.pc + 4#64 }.delayed .short (s.reg (lo n))
     else { s with pr := s.pc + 2#64 }.jumpTo (s.reg (lo n))))

/-- `000B` RTS: R313. -/
def execRts (s : State) : Result := notInSlot s (.next (s.delayed .short s.pr))

end Sys2Proof.Machine
end

