-- ==== Sys2Proof/Machine/Numerics.lean ====
section
/-!
DEFINITION. Sys2Proof/Machine/Numerics.lean: the numeric functions of 46_fpu.md R372. The default of FP_NUMERICS is
IEEE 754 binary32 and binary64 with RM = 0 nearest even and RM = 1 toward zero (PRESUMED, log 37): each result is
computed exactly and rounded once. What the default leaves open is a free value (log 38, 39, 40).
-/
namespace Sys2Proof.Machine

/-- A binary floating-point format: the widths of its exponent and fraction fields. -/
structure FpFormat where
  expBits : Nat
  fracBits : Nat
  deriving DecidableEq, Repr

/-- Single and Double (46_fpu.md R372). -/
def fpFormat (dbl : Bool) : FpFormat := if dbl then ⟨11, 52⟩ else ⟨8, 23⟩

/-- The largest exponent field, of infinities and NaNs. -/
def FpFormat.maxExp (f : FpFormat) : Nat := 2 ^ f.expBits - 1
/-- The exponent of one unit of the fraction of the smallest numbers. -/
def FpFormat.minExp (f : FpFormat) : Int := 2 - 2 ^ (f.expBits - 1) - f.fracBits
/-- The bits below the sign. -/
def FpFormat.magBits (f : FpFormat) : Nat := f.expBits + f.fracBits
/-- The pattern of infinity, without its sign. -/
def FpFormat.inf (f : FpFormat) : Nat := f.maxExp * 2 ^ f.fracBits

/-- What a pattern stands for: a finite number is `± mant * 2^exp`. -/
inductive FpValue where
  | nan
  | inf (neg : Bool)
  | fin (neg : Bool) (mant : Nat) (exp : Int)
  deriving DecidableEq, Repr

/-- The value of a pattern. -/
def fpDecode (f : FpFormat) (p : Nat) : FpValue :=
  let neg := p.testBit f.magBits
  let e := (p / 2 ^ f.fracBits) % 2 ^ f.expBits
  let m := p % 2 ^ f.fracBits
  if e = f.maxExp then if m = 0 then .inf neg else .nan
  else if e = 0 then .fin neg m f.minExp
  else .fin neg (2 ^ f.fracBits + m) (f.minExp + (e - 1 : Nat))

/-- What an IEEE operation answers: a pattern, or a NaN whose bits stay open. -/
inductive FpResult where
  | pattern (p : Nat)
  | nan
  deriving DecidableEq, Repr

/-- A magnitude with its sign. -/
def withSign (f : FpFormat) (neg : Bool) (mag : Nat) : Nat := (if neg then 2 ^ f.magBits else 0) + mag

/-- Round `± (mant + δ) * 2^exp` to the format, with δ = 0, or 0 < δ < 1 when `sticky`: to nearest even, or toward zero.
The rounded significand and the exponent add up to the pattern, a carry included. -/
def fpRound (f : FpFormat) (toZero neg : Bool) (mant : Nat) (exp : Int) (sticky : Bool) : Nat :=
  if mant = 0 then withSign f neg 0
  else
    let e := max (exp + (mant.log2 : Int) - f.fracBits) f.minExp
    let shift := e - exp
    let q : Nat :=
      if shift ≤ 0 then mant * 2 ^ (-shift).toNat
      else
        let s := shift.toNat
        let q := mant / 2 ^ s
        let rem := mant % 2 ^ s
        let half := 2 ^ (s - 1)
        let up := !toZero && (decide (half < rem) || (decide (rem = half) && (sticky || q % 2 == 1)))
        if up then q + 1 else q
    let p := (e - f.minExp).toNat * 2 ^ f.fracBits + q
    withSign f neg (if f.inf ≤ p then (if toZero then f.inf - 1 else f.inf) else p)

/-- An exact integer multiple of `2^exp`, rounded; `negZero` is the sign of an exact zero. -/
def fpRoundInt (f : FpFormat) (toZero negZero : Bool) (v : Int) (exp : Int) : Nat :=
  if v = 0 then withSign f negZero 0 else fpRound f toZero (decide (v < 0)) v.natAbs exp false

/-- A signed significand. -/
def signedMant (neg : Bool) (mant : Nat) : Int := if neg then -(mant : Int) else mant

/-- IEEE addition of two values. -/
def fpAdd (f : FpFormat) (toZero : Bool) : FpValue → FpValue → FpResult
  | .nan, _ => .nan
  | _, .nan => .nan
  | .inf a, .inf b => if a = b then .pattern (withSign f a f.inf) else .nan
  | .inf a, .fin .. => .pattern (withSign f a f.inf)
  | .fin .., .inf b => .pattern (withSign f b f.inf)
  | .fin a ma ea, .fin b mb eb =>
    let e := min ea eb
    let v := signedMant a ma * 2 ^ (ea - e).toNat + signedMant b mb * 2 ^ (eb - e).toNat
    .pattern (fpRoundInt f toZero (a && b) v e)

/-- The negation of a value. -/
def FpValue.negate : FpValue → FpValue
  | .nan => .nan
  | .inf a => .inf (!a)
  | .fin a m e => .fin (!a) m e

/-- The exact product of two values. -/
def fpProduct : FpValue → FpValue → FpValue
  | .nan, _ => .nan
  | _, .nan => .nan
  | .inf a, .inf b => .inf (a ^^ b)
  | .inf a, .fin b m _ => if m = 0 then .nan else .inf (a ^^ b)
  | .fin a m _, .inf b => if m = 0 then .nan else .inf (a ^^ b)
  | .fin a ma ea, .fin b mb eb => .fin (a ^^ b) (ma * mb) (ea + eb)

/-- A value rounded to the format. -/
def fpPack (f : FpFormat) (toZero : Bool) : FpValue → FpResult
  | .nan => .nan
  | .inf a => .pattern (withSign f a f.inf)
  | .fin a m e => .pattern (fpRound f toZero a m e false)

/-- IEEE multiplication. -/
def fpMul (f : FpFormat) (toZero : Bool) (a b : FpValue) : FpResult := fpPack f toZero (fpProduct a b)

/-- IEEE division: the quotient is taken to more bits than the format has, the remainder makes it sticky. -/
def fpDiv (f : FpFormat) (toZero : Bool) : FpValue → FpValue → FpResult
  | .nan, _ => .nan
  | _, .nan => .nan
  | .inf _, .inf _ => .nan
  | .inf a, .fin b _ _ => .pattern (withSign f (a ^^ b) f.inf)
  | .fin a _ _, .inf b => .pattern (withSign f (a ^^ b) 0)
  | .fin a ma ea, .fin b mb eb =>
    if mb = 0 then if ma = 0 then .nan else .pattern (withSign f (a ^^ b) f.inf)
    else
      let k := f.fracBits + 4 + mb.log2
      let n := ma * 2 ^ k
      .pattern (fpRound f toZero (a ^^ b) (n / mb) (ea - eb - k) (decide (n % mb ≠ 0)))

/-- The integer square root, one bit at a time from bit `k - 1` down. -/
def isqrtFrom (n : Nat) : Nat → Nat → Nat
  | 0, acc => acc
  | k + 1, acc => isqrtFrom n k (if (acc + 2 ^ k) * (acc + 2 ^ k) ≤ n then acc + 2 ^ k else acc)

/-- The integer square root. -/
def isqrt (n : Nat) : Nat := isqrtFrom n (n.log2 / 2 + 1) 0

/-- IEEE square root. -/
def fpSqrt (f : FpFormat) (toZero : Bool) : FpValue → FpResult
  | .nan => .nan
  | .inf neg => if neg then .nan else .pattern f.inf
  | .fin neg m e =>
    if m = 0 then .pattern (withSign f neg 0)
    else if neg then .nan
    else
      let k : Nat := 2 * (f.fracBits + 3) + (if e % 2 = 0 then 0 else 1)
      let n := m * 2 ^ k
      let r := isqrt n
      .pattern (fpRound f toZero false r ((e - k) / 2) (decide (r * r ≠ n)))

/-- The value of a result, as an operand. -/
def FpResult.value (f : FpFormat) : FpResult → FpValue
  | .pattern p => fpDecode f p
  | .nan => .nan

/-- `a * b + c` rounded once. -/
def fpFused (f : FpFormat) (toZero : Bool) (a b c : FpValue) : FpResult := fpAdd f toZero (fpProduct a b) c
/-- `a * b + c` with the product rounded first. -/
def fpUnfused (f : FpFormat) (toZero : Bool) (a b c : FpValue) : FpResult :=
  fpAdd f toZero ((fpMul f toZero a b).value f) c

/-- A signed integer in the format. -/
def fpFromInt (f : FpFormat) (toZero : Bool) (i : Int) : FpResult := .pattern (fpRoundInt f toZero false i 0)

/-- Truncation to a signed 32-bit integer; none for a NaN, an infinity or a value outside -2^31 .. 2^31 - 1
(46_fpu.md R394). -/
def fpToInt : FpValue → Option Int
  | .fin neg m e =>
    let t : Nat := if 0 ≤ e then m * 2 ^ e.toNat else m / 2 ^ (-e).toNat
    let exact : Bool := decide (0 ≤ e) || m % 2 ^ (-e).toNat == 0
    let bound : Nat := if neg then 2 ^ 31 else 2 ^ 31 - 1
    if t < bound ∨ (t = bound ∧ exact = true) then some (signedMant neg t) else none
  | _ => none

/-- The order of patterns that are no NaN: the two zeros are equal. -/
def fpKey (f : FpFormat) (p : Nat) : Int := signedMant (p.testBit f.magBits) (p % 2 ^ f.magBits)

/-- IEEE equality of two patterns. -/
def fpEqual (f : FpFormat) (a b : Nat) : Bool :=
  if fpDecode f a = .nan ∨ fpDecode f b = .nan then false else decide (fpKey f a = fpKey f b)
/-- IEEE `a > b` of two patterns. -/
def fpGreater (f : FpFormat) (a b : Nat) : Bool :=
  if fpDecode f a = .nan ∨ fpDecode f b = .nan then false else decide (fpKey f b < fpKey f a)

/-! ## The functions of FP_NUMERICS -/

/-- A NaN of the format whose sign and fraction come from open bits (log 38). -/
def openNan (f : FpFormat) (bits : Nat) : Nat :=
  let m := bits % 2 ^ f.fracBits
  withSign f (bits.testBit f.magBits) (f.inf + if m = 0 then 1 else m)

/-- An IEEE result as a bit pattern; the bits of a NaN are open (log 38). -/
def deliver (op : Config.FpOp) (dbl : Bool) (rm : BitVec 2) (args : List QWord) : FpResult → QWord
  | .pattern p => BitVec.ofNat 64 p
  | .nan => BitVec.ofNat 64 (openNan (fpFormat dbl) (Config.fpOpen op dbl rm args).toNat)

/-- A function of FP_NUMERICS that takes the rounding mode: the default is the IEEE operation for RM = 0 and 1, and open
for RM = 2 and 3; of any other numerics nothing is known (46_fpu.md R372; log 37, 38). `dbl` is the format of the
result. -/
def fpRounded (num : FpNumerics) (op : Config.FpOp) (dbl : Bool) (rm : BitVec 2) (args : List QWord)
    (ieee : Bool → FpResult) : QWord :=
  match num with
  | .other k => Config.fpNumeric k op dbl rm args
  | .ieee754 =>
    if rm = 0#2 then deliver op dbl rm args (ieee false)
    else if rm = 1#2 then deliver op dbl rm args (ieee true)
    else Config.fpOpen op dbl rm args

/-- The value of an operand pattern. -/
def operandValue (dbl : Bool) (a : QWord) : FpValue := fpDecode (fpFormat dbl) a.toNat

/-- `fp.add` (46_fpu.md R374). -/
def numAdd (num : FpNumerics) (dbl : Bool) (rm : BitVec 2) (a b : QWord) : QWord :=
  fpRounded num .add dbl rm [a, b] fun z => fpAdd (fpFormat dbl) z (operandValue dbl a) (operandValue dbl b)
/-- `fp.sub` (46_fpu.md R392). -/
def numSub (num : FpNumerics) (dbl : Bool) (rm : BitVec 2) (a b : QWord) : QWord :=
  fpRounded num .sub dbl rm [a, b] fun z => fpAdd (fpFormat dbl) z (operandValue dbl a) (operandValue dbl b).negate
/-- `fp.mul` (46_fpu.md R389). -/
def numMul (num : FpNumerics) (dbl : Bool) (rm : BitVec 2) (a b : QWord) : QWord :=
  fpRounded num .mul dbl rm [a, b] fun z => fpMul (fpFormat dbl) z (operandValue dbl a) (operandValue dbl b)
/-- `fp.div` (46_fpu.md R379). -/
def numDiv (num : FpNumerics) (dbl : Bool) (rm : BitVec 2) (a b : QWord) : QWord :=
  fpRounded num .div dbl rm [a, b] fun z => fpDiv (fpFormat dbl) z (operandValue dbl a) (operandValue dbl b)
/-- `fp.sqrt` (46_fpu.md R391). -/
def numSqrt (num : FpNumerics) (dbl : Bool) (rm : BitVec 2) (a : QWord) : QWord :=
  fpRounded num .sqrt dbl rm [a] fun z => fpSqrt (fpFormat dbl) z (operandValue dbl a)

/-- `fp.mac`, Single only: `a * b + c`. Whether the product is rounded first is not stated, so where the two answers
differ the choice is open (46_fpu.md R385; log 39). -/
def numMac (num : FpNumerics) (rm : BitVec 2) (a b c : QWord) : QWord :=
  fpRounded num .mac false rm [a, b, c] fun z =>
    let once := fpFused (fpFormat false) z (operandValue false a) (operandValue false b) (operandValue false c)
    let twice := fpUnfused (fpFormat false) z (operandValue false a) (operandValue false b) (operandValue false c)
    if once = twice then once else if Config.macRoundsProduct then twice else once

/-- The rounded sum of the rounded products of a list of pairs, from left to right, onto a first value. -/
def dotLeft (f : FpFormat) (z : Bool) : FpResult → List (FpValue × FpValue) → FpResult
  | acc, [] => acc
  | acc, p :: rest => dotLeft f z (fpAdd f z (acc.value f) ((fpMul f z p.1 p.2).value f)) rest

/-- The exact sum of the products of a list of pairs of finite values, in units of `2^e`; none when some value is not
finite. `e` must not exceed the exponent of any product. -/
def dotExact (e : Int) : List (FpValue × FpValue) → Option Int
  | [] => some 0
  | p :: rest =>
    match fpProduct p.1 p.2, dotExact e rest with
    | .fin n m x, some v => some (signedMant n m * 2 ^ (x - e).toNat + v)
    | _, _ => none

/-- `fp.ipr`, the dot product of two vectors of four Singles, with RM as in `numEq` (log 37). The order and the number of
roundings of the sum are not stated: where the sum rounded once and the sum rounded from left to right agree that is the
value, and where they differ it is open (46_fpu.md R380; log 39). -/
def numIpr (num : FpNumerics) (rm : BitVec 2) (a0 b0 : QWord) (rest : List (QWord × QWord)) : QWord :=
  let f := fpFormat false
  let args := a0 :: b0 :: (rest.map Prod.fst ++ rest.map Prod.snd)
  let vals := rest.map fun p => (operandValue false p.1, operandValue false p.2)
  let first := (operandValue false a0, operandValue false b0)
  let left := fun z => dotLeft f z (fpMul f z first.1 first.2) vals
  let exact := fun z => (dotExact (2 * f.minExp) (first :: vals)).map fun v =>
    FpResult.pattern (fpRoundInt f z false v (2 * f.minExp))
  match num with
  | .ieee754 =>
    if rm = 0#2 ∨ rm = 1#2 then
      let z := decide (rm = 1#2)
      match exact z with
      | none => deliver .ipr false rm args (left z)
      | some r => if r = left z then deliver .ipr false rm args r else Config.fpOpen .ipr false rm args
    else Config.fpOpen .ipr false rm args
  | .other k => Config.fpNumeric k .ipr false rm args

/-- `fp.eq` (46_fpu.md R375). The default does not depend on the rounding mode; other numerics get it, although the call in
R375 passes none (R372 says that each function takes it; log 37). -/
def numEq (num : FpNumerics) (dbl : Bool) (rm : BitVec 2) (a b : QWord) : Bool :=
  match num with
  | .ieee754 => fpEqual (fpFormat dbl) a.toNat b.toNat
  | .other k => (Config.fpNumeric k .eq dbl rm [a, b]).getLsbD 0
/-- `fp.gt`: `a > b` (46_fpu.md R376); the rounding mode as in `numEq` (log 37). -/
def numGt (num : FpNumerics) (dbl : Bool) (rm : BitVec 2) (a b : QWord) : Bool :=
  match num with
  | .ieee754 => fpGreater (fpFormat dbl) a.toNat b.toNat
  | .other k => (Config.fpNumeric k .gt dbl rm [a, b]).getLsbD 0

/-- `fp.from_int` of a signed 32-bit integer: to Double it is exact, whatever the rounding mode (46_fpu.md R384). -/
def numFromInt (num : FpNumerics) (dbl : Bool) (rm : BitVec 2) (i : DWord) : QWord :=
  fpRounded num .fromInt dbl (if dbl && decide (num = .ieee754) then 0#2 else rm) [i.setWidth 64] fun z =>
    fpFromInt (fpFormat dbl) z i.toInt

/-- `fp.to_int`: truncation to a signed 32-bit integer whatever RM is; none where the default is unspecified
(46_fpu.md R394; log 40). Other numerics get RM as in `numEq` (log 37). -/
def numToInt (num : FpNumerics) (dbl : Bool) (rm : BitVec 2) (a : QWord) : Option DWord :=
  match num with
  | .ieee754 => (fpToInt (operandValue dbl a)).map (BitVec.ofInt 32)
  | .other k => some ((Config.fpNumeric k .toInt dbl rm [a]).setWidth 32)

/-- `fp.widen`, Single to Double, exact (46_fpu.md R378); other numerics get RM as in `numEq` (log 37). -/
def numWiden (num : FpNumerics) (rm : BitVec 2) (a : DWord) : QWord :=
  match num with
  | .ieee754 => deliver .widen true 0#2 [a.setWidth 64] (fpPack (fpFormat true) false (operandValue false (a.setWidth 64)))
  | .other k => Config.fpNumeric k .widen true rm [a.setWidth 64]

/-- `fp.narrow`, Double to Single (46_fpu.md R377). -/
def numNarrow (num : FpNumerics) (rm : BitVec 2) (a : QWord) : DWord :=
  (fpRounded num .narrow false rm [a] fun z => fpPack (fpFormat false) z (operandValue true a)).setWidth 32

/-- The half-precision pattern of 46_fpu.md R397 when the 31-bit magnitude rounds up, or not, at bit 13. -/
def halfPattern (sign : Bool) (mag : Nat) (up zeroSign : Bool) : BitVec 16 :=
  let r := mag / 2 ^ 13 + up.toNat
  let e : Int := (r / 2 ^ 10 : Nat) - 112
  if 31 ≤ e then BitVec.ofBool sign ++ 0x7C00#15
  else if e ≤ 0 then BitVec.ofBool zeroSign ++ 0#15
  else BitVec.ofBool sign ++ (BitVec.ofNat 5 e.toNat ++ BitVec.ofNat 10 r)

/-- `fp.to_half` (46_fpu.md R397): the default rounds to nearest even and makes a NaN an infinity. Other numerics keep the
three stated properties; how they round, the sign of 0.0 and what a NaN becomes are open (log 42), and they get RM as in
`numEq` (log 37). -/
def numToHalf (num : FpNumerics) (rm : BitVec 2) (a : DWord) : BitVec 16 :=
  let mag := a.toNat % 2 ^ 31
  let low := mag % 2 ^ 13
  match num with
  | .ieee754 =>
    halfPattern a.msb mag (decide (2 ^ 12 < low) || (decide (low = 2 ^ 12) && decide (mag / 2 ^ 13 % 2 = 1))) false
  | .other k =>
    let c := Config.fpNumeric k .toHalf false rm [a.setWidth 64]
    if operandValue false (a.setWidth 64) = .nan then c.setWidth 16
    else halfPattern a.msb mag (decide (low ≠ 0) && c.getLsbD 0) (a.msb && c.getLsbD 1)

end Sys2Proof.Machine
end

