-- ==== Sys2Proof/Machine/Fpu.lean ====
section
/-!
DEFINITION. Sys2Proof/Machine/Fpu.lean: the floating-point instructions (46_fpu.md), one meaning for each row.
Sources come first and the destination last, as in the listings; `lo` and `hi` place a 4-bit register field.
-/
namespace Sys2Proof.Machine

/-! ## Shapes of floating-point instruction -/

/-- An instruction only under one value of FPSCR.PR; under the other the encoding is unlisted (46_fpu.md R371). -/
def onlyWhenPr (pr : Bool) (s : State) (k : Result) : Result := if s.fpPr = pr then k else raiseIllegal s

/-- Read an arithmetic operand: `S(r)` zero-extended, or `P(r)` (46_fpu.md R371). -/
def fpRead (r : Nibble) (k : Bool → QWord → Result) (s : State) : Result :=
  if s.fpPr then needPair r s (k true (s.pair r)) else k false (zeroExt (s.frReg r))

/-- Write an arithmetic result: `S(n)` or `P(n)` (46_fpu.md R371). -/
def fpWrite (n : Nibble) (v : Bool → QWord) (s : State) : Result :=
  if s.fpPr then needPair n s (.next ((s.setPair n (v true)).retire .short))
  else .next ((s.setFrReg n (lowDword (v false))).retire .short)

/-- One operand in place: FABS, FNEG, FSQRT. -/
def fpArith1 (f : Bool → BitVec 2 → QWord → QWord) (n : Nibble) (s : State) : Result :=
  fpRead n (fun dbl v => fpWrite n (fun _ => f dbl s.fpRm v) s) s

/-- Two operands, FRn or DRn on the left: FADD, FSUB, FMUL, FDIV (46_fpu.md R374, R392, R389, R379). -/
def fpArith2 (f : FpNumerics → Bool → BitVec 2 → QWord → QWord → QWord) (m n : Nibble) (s : State) : Result :=
  fpRead m (fun dbl b => fpRead n (fun _ a => fpWrite n (fun _ => f s.launch.fpNumerics dbl s.fpRm a b) s) s) s

/-- Two operands compared into SR.T (46_fpu.md R375, R376). -/
def fpCompare (f : FpNumerics → Bool → BitVec 2 → QWord → QWord → Bool) (m n : Nibble) (s : State) : Result :=
  fpRead m (fun dbl b => fpRead n (fun _ a => .next ((s.setT (f s.launch.fpNumerics dbl s.fpRm a b)).retire .short)) s) s

/-- The sign bit cleared (46_fpu.md R373). -/
def clearSign (dbl : Bool) (v : QWord) : QWord :=
  if dbl then 0#1 ++ v.extractLsb' 0 63 else zeroExt (v.extractLsb' 0 31)
/-- The sign bit inverted (46_fpu.md R390). -/
def flipSign (dbl : Bool) (v : QWord) : QWord :=
  if dbl then BitVec.ofBool (!v.getLsbD 63) ++ v.extractLsb' 0 63
  else zeroExt (BitVec.ofBool (!v.getLsbD 31) ++ v.extractLsb' 0 31)
/-- The pattern of 1.0 (46_fpu.md R382). -/
def fpOne (dbl : Bool) : QWord := if dbl then 0x3FF0000000000000#64 else 0x3F800000#64

/-- Element i of vector k, FR(4k+i) (46_fpu.md R380). -/
def vecReg (k i : BitVec 2) : Nibble := k ++ i
/-- The value of an element of a vector. -/
def State.vecElem (s : State) (k i : BitVec 2) : QWord := zeroExt (s.frReg (vecReg k i))

/-- The bytes an FMOV moves (46_fpu.md R387). -/
def State.fmovBytes (s : State) : QWord := if s.fpSz then 8#64 else 4#64

/-- Two 4-byte reads, `EA` and then `EA + 4`; all checks come before the first read (46_fpu.md R387, 60_exceptions.md
R433). -/
def loadTwo (ea : QWord) (s : State) (k : DWord → DWord → Result) : Result :=
  if s.accessOk .read ea 8 && s.accessOk .read ea 4 then
    if s.accessOk .read (ea + 4#64) 4 then
      load ea 4 s fun a => load (ea + 4#64) 4 s fun b => k (BitVec.ofNat 32 a) (BitVec.ofNat 32 b)
    else raise (.addressError (ea + 4#64) .read) s
  else raise (.addressError ea .read) s

/-- Two 4-byte writes, `EA` and then `EA + 4`; all checks come before the first write (46_fpu.md R388,
60_exceptions.md R433). -/
def storeTwo (ea : QWord) (a b : DWord) (s : State) (k : State → Result) : Result :=
  if s.accessOk .write ea 8 && s.accessOk .write ea 4 then
    if s.accessOk .write (ea + 4#64) 4 then k ((s.writeMem ea 4 a.toNat).writeMem (ea + 4#64) 4 b.toNat)
    else raise (.addressError (ea + 4#64) .write) s
  else raise (.addressError ea .write) s

/-- The base register of an FMOV load from `@Rm+` after the access (46_fpu.md R387). -/
def State.fmovInc (s : State) (m : BitVec 5) (inc : Bool) : State :=
  if inc then s.setReg m (s.reg m + s.fmovBytes) else s

/-- FMOV loads (46_fpu.md R387): with SZ = 1 the first word is the high half when PR = 0, the low half when PR = 1. -/
def fmovLoad (ea : QWord) (m : BitVec 5) (inc : Bool) (n : Nibble) (s : State) : Result :=
  if s.fpSz then needPair n s
    (loadTwo ea s fun a b => .next (((s.setPair n (if s.fpPr then b ++ a else a ++ b)).fmovInc m inc).retire .short))
  else load ea 4 s fun v => .next (((s.setFrReg n (BitVec.ofNat 32 v)).fmovInc m inc).retire .short)

/-- FMOV stores (46_fpu.md R388), then the change of the base register. -/
def fmovStore (ea : QWord) (m : Nibble) (base : State → State) (s : State) : Result :=
  if s.fpSz then needPair m s
    (storeTwo ea (if s.fpPr then lowDword (s.pair m) else (s.pair m).extractLsb' 32 32)
      (if s.fpPr then (s.pair m).extractLsb' 32 32 else lowDword (s.pair m)) s fun t => .next ((base t).retire .short))
  else store ea 4 (s.frReg m).toNat s fun t => .next ((base t).retire .short)

/-- FPSCR after PSETMD4 with FPSCR.VE = 0 (46_fpu.md R393): `z` is bit 3, `p` bit 2, `r` bit 1, `f` bit 0. -/
def setMode (v : DWord) (imm : Nibble) : DWord :=
  setBitTo (setBitTo (setBitTo (if imm.getLsbD 1 then 0#32 else v) Config.fpscrSz (imm.getLsbD 3))
    Config.fpscrPr (imm.getLsbD 2)) Config.fpscrFr (imm.getLsbD 0)

/-- The half-precision number repacked as a Single, the pseudocode of 46_fpu.md R395. -/
def halfRepack (h : Word) : DWord :=
  h.extractLsb' 15 1 ++ ((h.extractLsb' 10 5).setWidth 8 + 112#8) ++ h.extractLsb' 0 10 ++ 0#13

/-- The immediate form of LDHF16: none where the source calls the result undefined (46_fpu.md R395; log 41). -/
def halfImmediate (h : Word) : Option DWord :=
  let e := h.extractLsb' 10 5
  if e = 31#5 ∨ (e = 0#5 ∧ h.extractLsb' 0 10 ≠ 0#10) then none else some (halfRepack h)

/-- The register form of LDHF16: Inf, NaN and zero become their equivalents; none for a denormal (46_fpu.md R395;
log 41). -/
def halfRegister (h : Word) : Option DWord :=
  let e := h.extractLsb' 10 5
  let f := h.extractLsb' 0 10
  if e = 31#5 then some (h.extractLsb' 15 1 ++ 0xFF#8 ++ f ++ 0#13)
  else if e = 0#5 then if f = 0#10 then some (h.extractLsb' 15 1 ++ 0#31) else none
  else some (halfRepack h)

/-- FPUL written with a repacked half, or with a free value where it is undefined (46_fpu.md R395; log 41). -/
def fpulHalf (v : Option DWord) (l : Len) (s : State) : Result :=
  match v with
  | some d => .next ({ s with fpul := d }.retire l)
  | none => .next ({ s.drawn with fpul := lowDword s.freeNow }.retire l)

/-! ## Meanings -/

/-- `Fn5D` FABS FRn | DRn: R373. -/
def execFabs (n : BitVec 4) (s : State) : Result := fpuGuard s (fpArith1 (fun dbl _ v => clearSign dbl v) n s)

/-- `Fnm0` FADD FRm, FRn | DRm, DRn: R374. -/
def execFadd (m n : BitVec 4) (s : State) : Result := fpuGuard s (fpArith2 numAdd m n s)

/-- `Fnm4` FCMPEQ FRm, FRn | DRm, DRn: R375. -/
def execFcmpeq (m n : BitVec 4) (s : State) : Result := fpuGuard s (fpCompare numEq m n s)

/-- `Fnm5` FCMPGT FRm, FRn | DRm, DRn: R376. -/
def execFcmpgt (m n : BitVec 4) (s : State) : Result := fpuGuard s (fpCompare numGt m n s)

/-- `FmBD` FCNVDS DRm, FPUL: R377. -/
def execFcnvds (m : BitVec 4) (s : State) : Result :=
  onlyWhenPr true s (fpuGuard s (needPair m s
    (.next ({ s with fpul := numNarrow s.launch.fpNumerics s.fpRm (s.pair m) }.retire .short))))

/-- `FnAD` FCNVSD FPUL, DRn: R378. -/
def execFcnvsd (n : BitVec 4) (s : State) : Result :=
  onlyWhenPr true s (fpuGuard s (needPair n s
    (.next ((s.setPair n (numWiden s.launch.fpNumerics s.fpRm s.fpul)).retire .short))))

/-- `Fnm3` FDIV FRm, FRn | DRm, DRn: R379. -/
def execFdiv (m n : BitVec 4) (s : State) : Result := fpuGuard s (fpArith2 numDiv m n s)

/-- `FvED` FIPR FVm, FVn: R380. -/
def execFipr (vm vn : BitVec 2) (s : State) : Result :=
  onlyWhenPr false s (fpuGuard s (.next ((s.setFrReg (vecReg vn 3#2) (lowDword (numIpr s.launch.fpNumerics s.fpRm
    (s.vecElem vn 0#2) (s.vecElem vm 0#2)
    [(s.vecElem vn 1#2, s.vecElem vm 1#2), (s.vecElem vn 2#2, s.vecElem vm 2#2),
      (s.vecElem vn 3#2, s.vecElem vm 3#2)]))).retire .short)))

/-- `Fn8D` FLDI0 FRn | DRn: R381. -/
def execFldi0 (n : BitVec 4) (s : State) : Result := fpuGuard s (fpWrite n (fun _ => 0#64) s)

/-- `Fn9D` FLDI1 FRn | DRn: R382 (encoding from general knowledge, log 9). -/
def execFldi1 (n : BitVec 4) (s : State) : Result := fpuGuard s (fpWrite n fpOne s)

/-- `Fm1D` FLDS FRm, FPUL: R383. -/
def execFlds (m : BitVec 4) (s : State) : Result := fpuGuard s (.next ({ s with fpul := s.frReg m }.retire .short))

/-- `Fn2D` FLOAT FPUL, FRn | DRn: R384. -/
def execFloat (n : BitVec 4) (s : State) : Result :=
  fpuGuard s (fpWrite n (fun dbl => numFromInt s.launch.fpNumerics dbl s.fpRm s.fpul) s)

/-- `FnmE` FMAC FRm, FRn: R385. -/
def execFmac (m n : BitVec 4) (s : State) : Result :=
  onlyWhenPr false s (fpuGuard s (.next ((s.setFrReg n (lowDword (numMac s.launch.fpNumerics s.fpRm
    (zeroExt (s.frReg 0#4)) (zeroExt (s.frReg m)) (zeroExt (s.frReg n))))).retire .short)))

/-- `FnmC` FMOV FRm, FRn | DRm, DRn: R386. -/
def execFmov (m n : BitVec 4) (s : State) : Result :=
  fpuGuard s
    (if s.fpSz then needPair m s (needPair n s (.next ((s.setPair n (s.pair m)).retire .short)))
     else .next ((s.setFrReg n (s.frReg m)).retire .short))

/-- `Fnm6` FMOV.S @(R0,Rm), FRn | FMOV @(R0,Rm), DRn: R387. -/
def execFmovSAtR0RmFrn (m n : BitVec 4) (s : State) : Result := fpuGuard s (fmovLoad (s.eaR0 (lo m)) (lo m) false n s)

/-- `Fnm7` FMOV.S FRm, @(R0,Rn) | FMOV DRm, @(R0,Rn): R388. -/
def execFmovSFrmAtR0Rn (m n : BitVec 4) (s : State) : Result :=
  fpuGuard s (fmovStore (s.eaR0 (lo n)) m (fun t => t) s)

/-- `Fnm8` FMOV.S @Rm, FRn | FMOV @Rm, DRn: R387. -/
def execFmovSAtRmFrn (m n : BitVec 4) (s : State) : Result := fpuGuard s (fmovLoad (s.reg (lo m)) (lo m) false n s)

/-- `Fnm9` FMOV.S @Rm+, FRn | FMOV @Rm+, DRn: R387. -/
def execFmovSIncRmFrn (m n : BitVec 4) (s : State) : Result := fpuGuard s (fmovLoad (s.reg (lo m)) (lo m) true n s)

/-- `FnmA` FMOV.S FRm, @Rn | FMOV DRm, @Rn: R388. -/
def execFmovSFrmAtRn (m n : BitVec 4) (s : State) : Result := fpuGuard s (fmovStore (s.reg (lo n)) m (fun t => t) s)

/-- `FnmB` FMOV.S FRm, @-Rn | FMOV DRm, @-Rn: R388. -/
def execFmovSFrmDecRn (m n : BitVec 4) (s : State) : Result :=
  fpuGuard s (fmovStore (s.reg (lo n) - s.fmovBytes) m (fun t => t.setReg (lo n) (s.reg (lo n) - s.fmovBytes)) s)

/-- `Fnm2` FMUL FRm, FRn | DRm, DRn: R389. -/
def execFmul (m n : BitVec 4) (s : State) : Result := fpuGuard s (fpArith2 numMul m n s)

/-- `Fn4D` FNEG FRn | DRn: R390. -/
def execFneg (n : BitVec 4) (s : State) : Result := fpuGuard s (fpArith1 (fun dbl _ v => flipSign dbl v) n s)

/-- `Fn6D` FSQRT FRn | DRn: R391. -/
def execFsqrt (n : BitVec 4) (s : State) : Result := fpuGuard s (fpArith1 (numSqrt s.launch.fpNumerics) n s)

/-- `Fnm1` FSUB FRm, FRn | DRm, DRn: R392. -/
def execFsub (m n : BitVec 4) (s : State) : Result := fpuGuard s (fpArith2 numSub m n s)

/-- `FjDD` PSETMD4 #imm4: R393. -/
def execPsetmd4 (imm : BitVec 4) (s : State) : Result :=
  fpuGuard s
    (if imm.getLsbD 0 then .refused (.fpscrUnsupported s.pc)
     else .next ({ s with fpscr := setMode s.fpscr imm }.retire .short))

/-- `Fm3D` FTRC FRm | DRm, FPUL: R394. -/
def execFtrc (m : BitVec 4) (s : State) : Result :=
  fpuGuard s (fpRead m (fun dbl v =>
    match numToInt s.launch.fpNumerics dbl s.fpRm v with
    | some i => .next ({ s with fpul := i }.retire .short)
    | none => .next ({ s.drawn with fpul := lowDword s.freeNow }.retire .short)) s)

/-- `4m71` LDHF16 Rm, FPUL: R395 (marked `?`, log 9). -/
def execLdhf16RmFpul (m : BitVec 4) (s : State) : Result :=
  fpuGuard s (fpulHalf (halfRegister (lowWord (s.reg (lo m)))) .short s)

/-- `8Ejj-8Ajj` LDHF16 #imm16, FPUL: R395. -/
def execLdhf16Imm16Fpul (imm : BitVec 16) (s : State) : Result :=
  inForm .long s (fpuGuard s (fpulHalf (halfImmediate imm) .long s))

/-- `8Ejj-8Cjj` LDIF16 #imm16, FPUL: R396. -/
def execLdif16 (imm : BitVec 16) (s : State) : Result :=
  inForm .long s (fpuGuard s (.next ({ s with fpul := imm ++ 0#16 }.retire .long)))

/-- `4n61` STHF16 FPUL, Rn: R397 (marked `?`, log 9). -/
def execSthf16 (n : BitVec 4) (s : State) : Result :=
  fpuGuard s (writeReg .short (lo n) (zeroExt (numToHalf s.launch.fpNumerics s.fpRm s.fpul)) s)

end Sys2Proof.Machine
end

