-- ==== Sys2Proof/Machine/IntArith.lean ====
section
/-!
DEFINITION. Sys2Proof/Machine/IntArith.lean: the arithmetic instructions (40_int_arith_compare.md R140 to R144, R153 to R170), one meaning for each row.
Sources come first and the destination last, as in the listings; `lo` and `hi` place a 4-bit register field.
-/
namespace Sys2Proof.Machine

/-- `3nmC` ADD Rm, Rn: R140. -/
def execAddRmRn (m n : BitVec 4) (s : State) : Result :=
  writeReg .short (lo n) (addW (s.width false) (s.reg (lo n)) (s.reg (lo m))) s

/-- `CEeC-3nmF` ADD Rm, Rn: R140. -/
def execAddRmRnCe (q : Bool) (m n : BitVec 5) (s : State) : Result :=
  writeReg .long n (addW (s.width q) (s.reg n) (s.reg m)) s

/-- `7nii` ADD #imm8s, Rn: R141. -/
def execAddImm8sRn (imm : BitVec 8) (n : BitVec 4) (s : State) : Result :=
  writeReg .short (lo n) (addW (s.width false) (s.reg (lo n)) (signExt imm)) s

/-- `8Eii-7nii` ADD #imm16s, Rn (R0..R15): R141. -/
def execAddImm16sRn (imm : BitVec 16) (n : BitVec 4) (s : State) : Result :=
  writeReg .long (lo n) (addW (s.width false) (s.reg (lo n)) (signExt imm)) s

/-- `CEii-7nii` ADD #imm16s, Rn (R16..R31): R141. -/
def execAddImm16sRnHi (imm : BitVec 16) (n : BitVec 4) (s : State) : Result :=
  writeReg .long (hi n) (addW (s.width false) (s.reg (hi n)) (signExt imm)) s

/-- `8Ejj-3nmC` ADD Rm, #imm8, Rn: R142. -/
def execAddRmImm8Rn (m : BitVec 4) (imm : BitVec 8) (n : BitVec 4) (s : State) : Result :=
  writeReg .long (lo n) (addW (s.width false) (s.reg (lo m)) (zeroExt imm)) s

/-- `CEfj-3nmC` ADD Rm, #imm6, Rn: R142. -/
def execAddRmImm6Rn (m : BitVec 5) (imm : BitVec 6) (n : BitVec 5) (s : State) : Result :=
  writeReg .long n (addW (s.width false) (s.reg m) (zeroExt imm)) s

/-- `CEeo-Anm0` ADD Rm, Ro, Rn: R142. -/
def execAddRmRoRn (q : Bool) (m o n : BitVec 5) (s : State) : Result :=
  writeReg .long n (addW (s.width q) (s.reg m) (s.reg o)) s

/-- `3nmE` ADDC Rm, Rn: R143. -/
def execAddcRmRn (m n : BitVec 4) (s : State) : Result :=
  writeRegT .short (lo n) (addcW (s.width false) (s.reg (lo n)) (s.reg (lo m)) s.flagT) s

/-- `CEeE-3nmF` ADDC Rm, Rn: R143. -/
def execAddcRmRnCe (q : Bool) (m n : BitVec 5) (s : State) : Result :=
  writeRegT .long n (addcW (s.width q) (s.reg n) (s.reg m) s.flagT) s

/-- `CEeF-3nmF` ADDV Rm, Rn: R144. -/
def execAddv (q : Bool) (m n : BitVec 5) (s : State) : Result :=
  writeRegT .long n (addvW (s.width q) (s.reg n) (s.reg m)) s

/-- `05F8` DIV0S R5, R4: R153. -/
def execDiv0s (s : State) : Result :=
  .next ((((s.setQ ((s.reg 4#5).getLsbD 31)).setM ((s.reg 5#5).getLsbD 31)).setT
    ((s.reg 4#5).getLsbD 31 ^^ (s.reg 5#5).getLsbD 31)).retire .short)

/-- `0019` DIV0U: R154. -/
def execDiv0u (s : State) : Result := .next ((((s.setQ false).setM false).setT false).retire .short)

/-- `04F8` DIV1 R5, R4: R155. -/
def execDiv1 (s : State) : Result :=
  let d := divStep (lowDword (s.reg 4#5)) (lowDword (s.reg 5#5)) s.flagQ s.flagM s.flagT
  .next ((((s.setReg 4#5 (d.result.signExtend 64)).setQ d.q).setT d.t).retire .short)

/-- `3nmD` DMULS.L Rm, Rn: R156. -/
def execDmulsL (m n : BitVec 4) (s : State) : Result :=
  let p := (lowDword (s.reg (lo n))).signExtend 64 * (lowDword (s.reg (lo m))).signExtend 64
  .next ({ s with mach := p.extractLsb' 32 32, macl := lowDword p }.retire .short)

/-- `3nm5` DMULU.L Rm, Rn: R157. -/
def execDmuluL (m n : BitVec 4) (s : State) : Result :=
  let p := (lowDword (s.reg (lo n))).setWidth 64 * (lowDword (s.reg (lo m))).setWidth 64
  .next ({ s with mach := p.extractLsb' 32 32, macl := lowDword p }.retire .short)

/-- `4n10` DT Rn: R158. -/
def execDt (n : BitVec 4) (s : State) : Result :=
  writeRegT .short (lo n) (subW (s.width false) (s.reg (lo n)) 1#64, eqW (s.width false) (s.reg (lo n)) 1#64) s

/-- `8Ejj-9njj` LDSH16Z #imm16, Rn (R0..R15): R159. -/
def execLdsh16zImm16Rn (imm : BitVec 16) (n : BitVec 4) (s : State) : Result :=
  writeReg .long (lo n) ((s.reg (lo n) <<< 16) ||| zeroExt imm) s

/-- `CEjj-9njj` LDSH16Z #imm16, Rn (R16..R31): R159. -/
def execLdsh16zImm16RnHi (imm : BitVec 16) (n : BitVec 4) (s : State) : Result :=
  writeReg .long (hi n) ((s.reg (hi n) <<< 16) ||| zeroExt imm) s

/-- `8Ejj-2nmE` MUL Rm, #imm8, Rn: R160. -/
def execMulRmImm8Rn (m : BitVec 4) (imm : BitVec 8) (n : BitVec 4) (s : State) : Result :=
  writeReg .long (lo n) (mulW (s.width false) (s.reg (lo m)) (zeroExt imm)) s

/-- `8Ejj-2nmF` MUL Rm, #-imm8, Rn: R160. -/
def execMulRmNegImm8Rn (m : BitVec 4) (imm : BitVec 8) (n : BitVec 4) (s : State) : Result :=
  writeReg .long (lo n) (mulW (s.width false) (s.reg (lo m)) (onesExt imm)) s

/-- `CEfj-2nmE` MUL Rm, #imm6, Rn: R160. -/
def execMulRmImm6Rn (m : BitVec 5) (imm : BitVec 6) (n : BitVec 5) (s : State) : Result :=
  writeReg .long n (mulW (s.width false) (s.reg m) (zeroExt imm)) s

/-- `CEfj-2nmF` MUL Rm, #-imm6, Rn: R160. -/
def execMulRmNegImm6Rn (m : BitVec 5) (imm : BitVec 6) (n : BitVec 5) (s : State) : Result :=
  writeReg .long n (mulW (s.width false) (s.reg m) (onesExt imm)) s

/-- `CEeo-Anm2` MUL Rm, Ro, Rn: R160. -/
def execMulRmRoRn (q : Bool) (m o n : BitVec 5) (s : State) : Result :=
  writeReg .long n (mulW (s.width q) (s.reg m) (s.reg o)) s

/-- `2nmD` MUL.L Rm, Rn: R161. -/
def execMulLRmRn (m n : BitVec 4) (s : State) : Result :=
  inForm .short s (.next ({ s with macl := lowDword (s.reg (lo n)) * lowDword (s.reg (lo m)) }.retire .short))

/-- `CEe9-3nmF` MUL.L Rm, Rn: R161. -/
def execMulLRmRnCe (m n : BitVec 5) (s : State) : Result :=
  inForm .long s (.next ({ s with macl := lowDword (s.reg n) * lowDword (s.reg m) }.retire .long))

/-- `2nmF` MULS.W Rm, Rn: R162. -/
def execMulsW (m n : BitVec 4) (s : State) : Result :=
  .next ({ s with macl := (lowWord (s.reg (lo n))).signExtend 32 * (lowWord (s.reg (lo m))).signExtend 32 }.retire
    .short)

/-- `2nmE` MULU.W Rm, Rn: R163. -/
def execMuluW (m n : BitVec 4) (s : State) : Result :=
  .next ({ s with macl := (lowWord (s.reg (lo n))).setWidth 32 * (lowWord (s.reg (lo m))).setWidth 32 }.retire .short)

/-- `6nmB` NEG Rm, Rn: R164. -/
def execNegRmRn (m n : BitVec 4) (s : State) : Result :=
  writeReg .short (lo n) (negW (s.width false) (s.reg (lo m))) s

/-- `CEeB-6nmF` NEG Rm, Rn: R164. -/
def execNegRmRnCe (q : Bool) (m n : BitVec 5) (s : State) : Result := writeReg .long n (negW (s.width q) (s.reg m)) s

/-- `6nmA` NEGC Rm, Rn: R165. -/
def execNegcRmRn (m n : BitVec 4) (s : State) : Result :=
  writeRegT .short (lo n) (subcW (s.width false) 0#64 (s.reg (lo m)) s.flagT) s

/-- `CEeA-6nmF` NEGC Rm, Rn: R165. -/
def execNegcRmRnCe (q : Bool) (m n : BitVec 5) (s : State) : Result :=
  writeRegT .long n (subcW (s.width q) 0#64 (s.reg m) s.flagT) s

/-- `3nm8` SUB Rm, Rn: R166. -/
def execSubRmRn (m n : BitVec 4) (s : State) : Result :=
  writeReg .short (lo n) (subW (s.width false) (s.reg (lo n)) (s.reg (lo m))) s

/-- `CEe8-3nmF` SUB Rm, Rn: R166. -/
def execSubRmRnCe (q : Bool) (m n : BitVec 5) (s : State) : Result :=
  writeReg .long n (subW (s.width q) (s.reg n) (s.reg m)) s

/-- `8Ejj-3nm8` SUB Rm, #imm8, Rn: R167. -/
def execSubRmImm8Rn (m : BitVec 4) (imm : BitVec 8) (n : BitVec 4) (s : State) : Result :=
  writeReg .long (lo n) (subW (s.width false) (s.reg (lo m)) (zeroExt imm)) s

/-- `CEfj-3nm8` SUB Rm, #imm6, Rn: R167. -/
def execSubRmImm6Rn (m : BitVec 5) (imm : BitVec 6) (n : BitVec 5) (s : State) : Result :=
  writeReg .long n (subW (s.width false) (s.reg m) (zeroExt imm)) s

/-- `CEeo-Anm1` SUB Rm, Ro, Rn: R167. -/
def execSubRmRoRn (q : Bool) (m o n : BitVec 5) (s : State) : Result :=
  writeReg .long n (subW (s.width q) (s.reg m) (s.reg o)) s

/-- `3nmA` SUBC Rm, Rn: R168. -/
def execSubc (m n : BitVec 4) (s : State) : Result :=
  writeRegT .short (lo n) (subcW (s.width false) (s.reg (lo n)) (s.reg (lo m)) s.flagT) s

/-- `CEeB-3nmF` SUBV Rm, Rn: R169. -/
def execSubv (q : Bool) (m n : BitVec 5) (s : State) : Result :=
  writeRegT .long n (subvW (s.width q) (s.reg n) (s.reg m)) s

end Sys2Proof.Machine
end

