-- ==== Sys2Proof/Machine/IntCompare.lean ====
section
/-!
DEFINITION. Sys2Proof/Machine/IntCompare.lean: the compares (40_int_arith_compare.md R145 to R152), one meaning for each row.
Sources come first and the destination last, as in the listings; `lo` and `hi` place a 4-bit register field.
-/
namespace Sys2Proof.Machine

/-- `3nm0` CMP/EQ Rm, Rn: R145. -/
def execCmpEqRmRn (m n : BitVec 4) (s : State) : Result :=
  writeT .short (eqW (s.width false) (s.reg (lo n)) (s.reg (lo m))) s

/-- `CEe0-3nmF` CMP/EQ Rm, Rn: R145. -/
def execCmpEqRmRnCe (q : Bool) (m n : BitVec 5) (s : State) : Result :=
  writeT .long (eqW (s.width q) (s.reg n) (s.reg m)) s

/-- `88ii` CMP/EQ #imm8s, R0: R146. -/
def execCmpEqImm8sR0 (imm : BitVec 8) (s : State) : Result :=
  writeT .short (eqW (s.width false) (s.reg 0#5) (signExt imm)) s

/-- `8Eii-3ni0` CMP/EQ #imm12s, Rn: R146. -/
def execCmpEqImm12sRn (imm : BitVec 12) (n : BitVec 4) (s : State) : Result :=
  writeT .long (eqW (s.width false) (s.reg (lo n)) (signExt imm)) s

/-- `CEfi-3ni0` CMP/EQ #imm10s, Rn: R146. -/
def execCmpEqImm10sRn (q : Bool) (imm : BitVec 10) (n : BitVec 5) (s : State) : Result :=
  writeT .long (eqW (s.width q) (s.reg n) (signExt imm)) s

/-- `8Eii-3ni3` CMP/GE #imm12s, Rn: R147. -/
def execCmpGeImm12sRn (imm : BitVec 12) (n : BitVec 4) (s : State) : Result :=
  writeT .long (geW (s.width false) (s.reg (lo n)) (signExt imm)) s

/-- `CEfi-3ni3` CMP/GE #imm10s, Rn: R147. -/
def execCmpGeImm10sRn (q : Bool) (imm : BitVec 10) (n : BitVec 5) (s : State) : Result :=
  writeT .long (geW (s.width q) (s.reg n) (signExt imm)) s

/-- `CEe3-3nmF` CMP/GE Rm, Rn: R147. -/
def execCmpGeRmRn (q : Bool) (m n : BitVec 5) (s : State) : Result :=
  writeT .long (geW (s.width q) (s.reg n) (s.reg m)) s

/-- `3nm7` CMP/GT Rm, Rn: R148. -/
def execCmpGtRmRn (m n : BitVec 4) (s : State) : Result :=
  writeT .short (gtW (s.width false) (s.reg (lo n)) (s.reg (lo m))) s

/-- `8Eii-3ni7` CMP/GT #imm12s, Rn: R148. -/
def execCmpGtImm12sRn (imm : BitVec 12) (n : BitVec 4) (s : State) : Result :=
  writeT .long (gtW (s.width false) (s.reg (lo n)) (signExt imm)) s

/-- `CEfi-3ni7` CMP/GT #imm10s, Rn: R148. -/
def execCmpGtImm10sRn (q : Bool) (imm : BitVec 10) (n : BitVec 5) (s : State) : Result :=
  writeT .long (gtW (s.width q) (s.reg n) (signExt imm)) s

/-- `CEe7-3nmF` CMP/GT Rm, Rn: R148. -/
def execCmpGtRmRnCe (q : Bool) (m n : BitVec 5) (s : State) : Result :=
  writeT .long (gtW (s.width q) (s.reg n) (s.reg m)) s

/-- `3nm6` CMP/HI Rm, Rn: R149. -/
def execCmpHiRmRn (m n : BitVec 4) (s : State) : Result :=
  writeT .short (hiW (s.width false) (s.reg (lo n)) (s.reg (lo m))) s

/-- `8Eii-3ni6` CMP/HI #imm12s, Rn: R149. -/
def execCmpHiImm12sRn (imm : BitVec 12) (n : BitVec 4) (s : State) : Result :=
  writeT .long (hiW (s.width false) (s.reg (lo n)) (signExt imm)) s

/-- `CEe6-3nmF` CMP/HI Rm, Rn: R149. -/
def execCmpHiRmRnCe (q : Bool) (m n : BitVec 5) (s : State) : Result :=
  writeT .long (hiW (s.width q) (s.reg n) (s.reg m)) s

/-- `CEfi-3ni6` CMP/HI #imm10s, Rn: R149. -/
def execCmpHiImm10sRn (q : Bool) (imm : BitVec 10) (n : BitVec 5) (s : State) : Result :=
  writeT .long (hiW (s.width q) (s.reg n) (signExt imm)) s

/-- `8Eii-3ni2` CMP/HS #imm12s, Rn: R150. -/
def execCmpHsImm12sRn (imm : BitVec 12) (n : BitVec 4) (s : State) : Result :=
  writeT .long (hsW (s.width false) (s.reg (lo n)) (signExt imm)) s

/-- `CEe2-3nmF` CMP/HS Rm, Rn: R150. -/
def execCmpHsRmRn (q : Bool) (m n : BitVec 5) (s : State) : Result :=
  writeT .long (hsW (s.width q) (s.reg n) (s.reg m)) s

/-- `CEfi-3ni2` CMP/HS #imm10s, Rn: R150. -/
def execCmpHsImm10sRn (q : Bool) (imm : BitVec 10) (n : BitVec 5) (s : State) : Result :=
  writeT .long (hsW (s.width q) (s.reg n) (signExt imm)) s

/-- `4n15` CMP/PL Rn: R151. -/
def execCmpPl (n : BitVec 4) (s : State) : Result := writeT .short (gtW (s.width false) (s.reg (lo n)) 0#64) s

/-- `4n11` CMP/PZ Rn: R152. -/
def execCmpPz (n : BitVec 4) (s : State) : Result := writeT .short (geW (s.width false) (s.reg (lo n)) 0#64) s

end Sys2Proof.Machine
end

