-- ==== Sys2Proof/Machine/Lea.lean ====
section
/-!
DEFINITION. Sys2Proof/Machine/Lea.lean: the address calculations LEA and MOVA (43_int_loadstore.md R261 to R264, R273), one meaning for each row.
Sources come first and the destination last, as in the listings; `lo` and `hi` place a 4-bit register field.
-/
namespace Sys2Proof.Machine

/-- `4nF5` LEA.B @(PC, R0), Rn: R261. -/
def execLeaBAtPcR0Rn (n : BitVec 4) (s : State) : Result := notInSlot s (writeReg .short (lo n) s.eaPcR0 s)

/-- `8Eod-6nm4` LEA.B @(Rm, Ro, disp4), Rn: R261. -/
def execLeaBAtRmRoDisp4Rn (m o disp n : BitVec 4) (s : State) : Result :=
  leaIndex .long .b (lo m) (lo o) (zeroExt disp) (lo n) s

/-- `8Edd-6nm8` LEA.B @(Rm, disp8s), Rn: R261. -/
def execLeaBAtRmDisp8sRn (m : BitVec 4) (disp : BitVec 8) (n : BitVec 4) (s : State) : Result :=
  writeReg .long (lo n) (s.eaDisp .b (lo m) (signExt disp)) s

/-- `CEfo-6nm4` LEA.B @(Rm, Ro), Rn: R261. -/
def execLeaBAtRmRoRn (m : BitVec 5) (o : BitVec 4) (n : BitVec 5) (s : State) : Result :=
  leaIndex .long .b m (lo o) 0#64 n s

/-- `CEfd-6nm8` LEA.B @(Rm, disp6), Rn: R261. -/
def execLeaBAtRmDisp6Rn (m : BitVec 5) (disp : BitVec 6) (n : BitVec 5) (s : State) : Result :=
  writeReg .long n (s.eaDisp .b m (zeroExt disp)) s

/-- `8Eod-6nm5` LEA.W @(Rm, Ro, disp4), Rn: R262. -/
def execLeaWAtRmRoDisp4Rn (m o disp n : BitVec 4) (s : State) : Result :=
  leaIndex .long .w (lo m) (lo o) (zeroExt disp) (lo n) s

/-- `8Edd-6nm9` LEA.W @(Rm, disp8s), Rn: R262. -/
def execLeaWAtRmDisp8sRn (m : BitVec 4) (disp : BitVec 8) (n : BitVec 4) (s : State) : Result :=
  writeReg .long (lo n) (s.eaDisp .w (lo m) (signExt disp)) s

/-- `CEfo-6nm5` LEA.W @(Rm, Ro), Rn: R262. -/
def execLeaWAtRmRoRn (m : BitVec 5) (o : BitVec 4) (n : BitVec 5) (s : State) : Result :=
  leaIndex .long .w m (lo o) 0#64 n s

/-- `CEfd-6nm9` LEA.W @(Rm, disp6), Rn: R262. -/
def execLeaWAtRmDisp6Rn (m : BitVec 5) (disp : BitVec 6) (n : BitVec 5) (s : State) : Result :=
  writeReg .long n (s.eaDisp .w m (zeroExt disp)) s

/-- `8Eod-6nm6` LEA.L @(Rm, Ro, disp4), Rn: R263. -/
def execLeaLAtRmRoDisp4Rn (m o disp n : BitVec 4) (s : State) : Result :=
  leaIndex .long .l (lo m) (lo o) (zeroExt disp) (lo n) s

/-- `8Edd-6nmA` LEA.L @(Rm, disp8s), Rn: R263. -/
def execLeaLAtRmDisp8sRn (m : BitVec 4) (disp : BitVec 8) (n : BitVec 4) (s : State) : Result :=
  writeReg .long (lo n) (s.eaDisp .l (lo m) (signExt disp)) s

/-- `CEfo-6nm6` LEA.L @(Rm, Ro), Rn: R263. -/
def execLeaLAtRmRoRn (m : BitVec 5) (o : BitVec 4) (n : BitVec 5) (s : State) : Result :=
  leaIndex .long .l m (lo o) 0#64 n s

/-- `CEfd-6nmA` LEA.L @(Rm, disp6), Rn: R263. -/
def execLeaLAtRmDisp6Rn (m : BitVec 5) (disp : BitVec 6) (n : BitVec 5) (s : State) : Result :=
  writeReg .long n (s.eaDisp .l m (zeroExt disp)) s

/-- `8Eod-6nm7` LEA.Q @(Rm, Ro, disp4), Rn: R264. -/
def execLeaQAtRmRoDisp4Rn (m o disp n : BitVec 4) (s : State) : Result :=
  leaIndex .long .q (lo m) (lo o) (zeroExt disp) (lo n) s

/-- `8Edd-6nmB` LEA.Q @(Rm, disp8s), Rn: R264. -/
def execLeaQAtRmDisp8sRn (m : BitVec 4) (disp : BitVec 8) (n : BitVec 4) (s : State) : Result :=
  writeReg .long (lo n) (s.eaDisp .q (lo m) (signExt disp)) s

/-- `CEfo-6nm7` LEA.Q @(Rm, Ro), Rn: R264. -/
def execLeaQAtRmRoRn (m : BitVec 5) (o : BitVec 4) (n : BitVec 5) (s : State) : Result :=
  leaIndex .long .q m (lo o) 0#64 n s

/-- `CEfd-6nmB` LEA.Q @(Rm, disp6), Rn: R264. -/
def execLeaQAtRmDisp6Rn (m : BitVec 5) (disp : BitVec 6) (n : BitVec 5) (s : State) : Result :=
  writeReg .long n (s.eaDisp .q m (zeroExt disp)) s

/-- `C7dd` MOVA @(PC, disp8), R0: R273. -/
def execMova (disp : BitVec 8) (s : State) : Result :=
  notInSlot s (writeReg .short 0#5 (s.eaPcDispL disp) s)

end Sys2Proof.Machine
end

