-- ==== Sys2Proof/Machine/LoadStore.lean ====
section
/-!
DEFINITION. Sys2Proof/Machine/LoadStore.lean: the loads, stores, stack instructions and CAS.L (43_int_loadstore.md), one meaning for each row.
Sources come first and the destination last, as in the listings; `lo` and `hi` place a 4-bit register field.
-/
namespace Sys2Proof.Machine

/-- `06F8` CAS.L R5, R4, @R0: R260. Under `casCheck` = `always` both accesses are checked before either is performed, as
60_exceptions.md R433 says; under `whenEqual` the write is checked when the compare succeeds, as R260 says (log 24). -/
def execCasL (s : State) : Result :=
  if s.launch.casCheck = .always ∧ s.accessOk .read (s.reg 0#5) 4 = true ∧ s.accessOk .write (s.reg 0#5) 4 = false then
    raise (.addressError (s.reg 0#5) .write) s
  else load (s.reg 0#5) 4 s fun old =>
    if BitVec.ofNat 32 old = lowDword (s.reg 5#5) then
      store (s.reg 0#5) 4 (s.reg 4#5).toNat s fun t =>
        .next (((t.setT true).setReg 4#5 (loadSigned .l old)).retire .short)
    else .next (((s.setT false).setReg 4#5 (loadSigned .l old)).retire .short)

/-- `0nm4` MOV.B Rm, @(R0, Rn): R265. -/
def execMovBRmAtR0Rn (m n : BitVec 4) (s : State) : Result := storeReg .short .b (s.eaR0 (lo n)) (lo m) s

/-- `2nm0` MOV.B Rm, @Rn: R265. -/
def execMovBRmAtRn (m n : BitVec 4) (s : State) : Result := storeReg .short .b (s.reg (lo n)) (lo m) s

/-- `2nm4` MOV.B Rm, @-Rn: R265. -/
def execMovBRmDecRn (m n : BitVec 4) (s : State) : Result := storeDec (lo n) 1 (s.reg (lo m)) s

/-- `0nmC` MOV.B @(R0, Rm), Rn: R266. -/
def execMovBAtR0RmRn (m n : BitVec 4) (s : State) : Result := loadReg .short .b loadSigned (s.eaR0 (lo m)) (lo n) s

/-- `6nm0` MOV.B @Rm, Rn: R266. -/
def execMovBAtRmRn (m n : BitVec 4) (s : State) : Result := loadReg .short .b loadSigned (s.reg (lo m)) (lo n) s

/-- `6nm4` MOV.B @Rm+, Rn: R266. -/
def execMovBIncRmRn (m n : BitVec 4) (s : State) : Result := loadRegInc .b loadSigned (lo m) (lo n) s

/-- `4mC1` MOV.B Rm, @(PC, R0): R265. -/
def execMovBRmAtPcR0 (m : BitVec 4) (s : State) : Result := notInSlot s (storeReg .short .b s.eaPcR0 (lo m) s)

/-- `4nC5` MOV.B @(PC, R0), Rn: R266. -/
def execMovBAtPcR0Rn (n : BitVec 4) (s : State) : Result :=
  notInSlot s (loadReg .short .b loadSigned s.eaPcR0 (lo n) s)

/-- `8Eod-0nm4` MOV.B Rm, @(Rn, Ro, disp4): R265. -/
def execMovBRmAtRnRoDisp4 (m n o disp : BitVec 4) (s : State) : Result :=
  storeReg .long .b (s.eaIndex .b (lo n) (lo o) (zeroExt disp)) (lo m) s

/-- `8Edd-2nm0` MOV.B Rm, @(Rn, disp8s): R265. -/
def execMovBRmAtRnDisp8s (m n : BitVec 4) (disp : BitVec 8) (s : State) : Result :=
  storeReg .long .b (s.eaDisp .b (lo n) (signExt disp)) (lo m) s

/-- `8Eod-0nmC` MOV.B @(Rm, Ro, disp4), Rn: R266. -/
def execMovBAtRmRoDisp4Rn (m o disp n : BitVec 4) (s : State) : Result :=
  loadReg .long .b loadSigned (s.eaIndex .b (lo m) (lo o) (zeroExt disp)) (lo n) s

/-- `8Edd-6nm0` MOV.B @(Rm, disp8s), Rn: R266. -/
def execMovBAtRmDisp8sRn (m : BitVec 4) (disp : BitVec 8) (n : BitVec 4) (s : State) : Result :=
  loadReg .long .b loadSigned (s.eaDisp .b (lo m) (signExt disp)) (lo n) s

/-- `CEeo-0nm4` MOV.B Rm, @(Rn, Ro): R265. -/
def execMovBRmAtRnRo (m n o : BitVec 5) (s : State) : Result := storeReg .long .b (s.eaIndex .b n o 0#64) m s

/-- `CEfd-2nm0` MOV.B Rm, @(Rn, disp6): R265. -/
def execMovBRmAtRnDisp6 (m n : BitVec 5) (disp : BitVec 6) (s : State) : Result :=
  storeReg .long .b (s.eaDisp .b n (zeroExt disp)) m s

/-- `CEeo-0nmC` MOV.B @(Rm, Ro), Rn: R266. -/
def execMovBAtRmRoRn (m o n : BitVec 5) (s : State) : Result :=
  loadReg .long .b loadSigned (s.eaIndex .b m o 0#64) n s

/-- `CEfd-6nm0` MOV.B @(Rm, disp6), Rn: R266. -/
def execMovBAtRmDisp6Rn (m : BitVec 5) (disp : BitVec 6) (n : BitVec 5) (s : State) : Result :=
  loadReg .long .b loadSigned (s.eaDisp .b m (zeroExt disp)) n s

/-- `0nm6` MOV.L Rm, @(R0, Rn): R267. -/
def execMovLRmAtR0Rn (m n : BitVec 4) (s : State) : Result := storeReg .short .l (s.eaR0 (lo n)) (lo m) s

/-- `1nmd` MOV.L Rm, @(Rn, disp4): R267. -/
def execMovLRmAtRnDisp4 (m n disp : BitVec 4) (s : State) : Result :=
  storeReg .short .l (s.eaDisp .l (lo n) (zeroExt disp)) (lo m) s

/-- `2nm2` MOV.L Rm, @Rn: R267. -/
def execMovLRmAtRn (m n : BitVec 4) (s : State) : Result := storeReg .short .l (s.reg (lo n)) (lo m) s

/-- `2nm6` MOV.L Rm, @-Rn: R267. -/
def execMovLRmDecRn (m n : BitVec 4) (s : State) : Result := storeDec (lo n) 4 (s.reg (lo m)) s

/-- `0nmE` MOV.L @(R0, Rm), Rn: R268. -/
def execMovLAtR0RmRn (m n : BitVec 4) (s : State) : Result := loadReg .short .l loadSigned (s.eaR0 (lo m)) (lo n) s

/-- `5nmd` MOV.L @(Rm, disp4), Rn: R268. -/
def execMovLAtRmDisp4Rn (m disp n : BitVec 4) (s : State) : Result :=
  loadReg .short .l loadSigned (s.eaDisp .l (lo m) (zeroExt disp)) (lo n) s

/-- `6nm2` MOV.L @Rm, Rn: R268. -/
def execMovLAtRmRn (m n : BitVec 4) (s : State) : Result := loadReg .short .l loadSigned (s.reg (lo m)) (lo n) s

/-- `6nm6` MOV.L @Rm+, Rn: R268. -/
def execMovLIncRmRn (m n : BitVec 4) (s : State) : Result := loadRegInc .l loadSigned (lo m) (lo n) s

/-- `Dndd` MOV.L @(PC, disp8), Rn: R268. -/
def execMovLAtPcDisp8Rn (disp : BitVec 8) (n : BitVec 4) (s : State) : Result :=
  notInSlot s (loadReg .short .l loadSigned (s.eaPcDispL disp) (lo n) s)

/-- `4mE1` MOV.L Rm, @(PC, R0): R267. -/
def execMovLRmAtPcR0 (m : BitVec 4) (s : State) : Result := notInSlot s (storeReg .short .l s.eaPcR0 (lo m) s)

/-- `4nE5` MOV.L @(PC, R0), Rn: R268. -/
def execMovLAtPcR0Rn (n : BitVec 4) (s : State) : Result :=
  notInSlot s (loadReg .short .l loadSigned s.eaPcR0 (lo n) s)

/-- `8Eod-0nm6` MOV.L Rm, @(Rn, Ro, disp4): R267. -/
def execMovLRmAtRnRoDisp4 (m n o disp : BitVec 4) (s : State) : Result :=
  storeReg .long .l (s.eaIndex .l (lo n) (lo o) (zeroExt disp)) (lo m) s

/-- `8Edd-1nmo` MOV.L Rm, @(Rn, Ro, disp8s): R267. -/
def execMovLRmAtRnRoDisp8s (m n o : BitVec 4) (disp : BitVec 8) (s : State) : Result :=
  storeReg .long .l (s.eaIndex .l (lo n) (lo o) (signExt disp)) (lo m) s

/-- `8Edd-2nm2` MOV.L Rm, @(Rn, disp8s): R267. -/
def execMovLRmAtRnDisp8s (m n : BitVec 4) (disp : BitVec 8) (s : State) : Result :=
  storeReg .long .l (s.eaDisp .l (lo n) (signExt disp)) (lo m) s

/-- `8Eod-0nmE` MOV.L @(Rm, Ro, disp4), Rn: R268. -/
def execMovLAtRmRoDisp4Rn (m o disp n : BitVec 4) (s : State) : Result :=
  loadReg .long .l loadSigned (s.eaIndex .l (lo m) (lo o) (zeroExt disp)) (lo n) s

/-- `8Edd-5nmo` MOV.L @(Rm, Ro, disp8s), Rn: R268. -/
def execMovLAtRmRoDisp8sRn (m o : BitVec 4) (disp : BitVec 8) (n : BitVec 4) (s : State) : Result :=
  loadReg .long .l loadSigned (s.eaIndex .l (lo m) (lo o) (signExt disp)) (lo n) s

/-- `8Edd-6nm2` MOV.L @(Rm, disp8s), Rn: R268. -/
def execMovLAtRmDisp8sRn (m : BitVec 4) (disp : BitVec 8) (n : BitVec 4) (s : State) : Result :=
  loadReg .long .l loadSigned (s.eaDisp .l (lo m) (signExt disp)) (lo n) s

/-- `CEeo-0nm6` MOV.L Rm, @(Rn, Ro): R267. -/
def execMovLRmAtRnRo (m n o : BitVec 5) (s : State) : Result := storeReg .long .l (s.eaIndex .l n o 0#64) m s

/-- `CEfd-2nm2` MOV.L Rm, @(Rn, disp6): R267. -/
def execMovLRmAtRnDisp6 (m n : BitVec 5) (disp : BitVec 6) (s : State) : Result :=
  storeReg .long .l (s.eaDisp .l n (zeroExt disp)) m s

/-- `CEeo-0nmE` MOV.L @(Rm, Ro), Rn: R268. -/
def execMovLAtRmRoRn (m o n : BitVec 5) (s : State) : Result :=
  loadReg .long .l loadSigned (s.eaIndex .l m o 0#64) n s

/-- `CEfd-6nm2` MOV.L @(Rm, disp6), Rn: R268. -/
def execMovLAtRmDisp6Rn (m : BitVec 5) (disp : BitVec 6) (n : BitVec 5) (s : State) : Result :=
  loadReg .long .l loadSigned (s.eaDisp .l m (zeroExt disp)) n s

/-- `0nm7` MOV.Q Rm, @(R0, Rn): R269. -/
def execMovQRmAtR0Rn (m n : BitVec 4) (s : State) : Result := storeReg .short .q (s.eaR0 (lo n)) (lo m) s

/-- `0nmF` MOV.Q @(R0, Rm), Rn: R270. -/
def execMovQAtR0RmRn (m n : BitVec 4) (s : State) : Result := loadReg .short .q loadSigned (s.eaR0 (lo m)) (lo n) s

/-- `2nm3` MOV.Q Rm, @Rn: R269. -/
def execMovQRmAtRn (m n : BitVec 4) (s : State) : Result := storeReg .short .q (s.reg (lo n)) (lo m) s

/-- `2nm7` MOV.Q Rm, @-Rn: R269. -/
def execMovQRmDecRn (m n : BitVec 4) (s : State) : Result := storeDec (lo n) 8 (s.reg (lo m)) s

/-- `4mA1` MOV.Q Rm, @(PC, R0): R269. -/
def execMovQRmAtPcR0 (m : BitVec 4) (s : State) : Result := notInSlot s (storeReg .short .q s.eaPcR0 (lo m) s)

/-- `4nA5` MOV.Q @(PC, R0), Rn: R270. -/
def execMovQAtPcR0Rn (n : BitVec 4) (s : State) : Result :=
  notInSlot s (loadReg .short .q loadSigned s.eaPcR0 (lo n) s)

/-- `6nm3` MOV.Q @Rm, Rn: R270. -/
def execMovQAtRmRn (m n : BitVec 4) (s : State) : Result := loadReg .short .q loadSigned (s.reg (lo m)) (lo n) s

/-- `6nm7` MOV.Q @Rm+, Rn: R270. -/
def execMovQIncRmRn (m n : BitVec 4) (s : State) : Result := loadRegInc .q loadSigned (lo m) (lo n) s

/-- `C0md` MOV.Q Rm, @(SP, disp4): R269. -/
def execMovQRmAtSpDisp4 (m disp : BitVec 4) (s : State) : Result :=
  storeReg .short .q (s.eaDisp .q regSp (zeroExt disp)) (lo m) s

/-- `C4nd` MOV.Q @(SP, disp4), Rn: R270. -/
def execMovQAtSpDisp4Rn (disp n : BitVec 4) (s : State) : Result :=
  loadReg .short .q loadSigned (s.eaDisp .q regSp (zeroExt disp)) (lo n) s

/-- `8Eod-0nm7` MOV.Q Rm, @(Rn, Ro, disp4): R269. -/
def execMovQRmAtRnRoDisp4 (m n o disp : BitVec 4) (s : State) : Result :=
  storeReg .long .q (s.eaIndex .q (lo n) (lo o) (zeroExt disp)) (lo m) s

/-- `8Eod-0nmF` MOV.Q @(Rm, Ro, disp4), Rn: R270. -/
def execMovQAtRmRoDisp4Rn (m o disp n : BitVec 4) (s : State) : Result :=
  loadReg .long .q loadSigned (s.eaIndex .q (lo m) (lo o) (zeroExt disp)) (lo n) s

/-- `8Edd-2nm3` MOV.Q Rm, @(Rn, disp8s): R269. -/
def execMovQRmAtRnDisp8s (m n : BitVec 4) (disp : BitVec 8) (s : State) : Result :=
  storeReg .long .q (s.eaDisp .q (lo n) (signExt disp)) (lo m) s

/-- `8Edd-6nm3` MOV.Q @(Rm, disp8s), Rn: R270. -/
def execMovQAtRmDisp8sRn (m : BitVec 4) (disp : BitVec 8) (n : BitVec 4) (s : State) : Result :=
  loadReg .long .q loadSigned (s.eaDisp .q (lo m) (signExt disp)) (lo n) s

/-- `CEeo-0nm7` MOV.Q Rm, @(Rn, Ro): R269. -/
def execMovQRmAtRnRo (m n o : BitVec 5) (s : State) : Result := storeReg .long .q (s.eaIndex .q n o 0#64) m s

/-- `CEeo-0nmF` MOV.Q @(Rm, Ro), Rn: R270. -/
def execMovQAtRmRoRn (m o n : BitVec 5) (s : State) : Result :=
  loadReg .long .q loadSigned (s.eaIndex .q m o 0#64) n s

/-- `CEfd-2nm3` MOV.Q Rm, @(Rn, disp6): R269. -/
def execMovQRmAtRnDisp6 (m n : BitVec 5) (disp : BitVec 6) (s : State) : Result :=
  storeReg .long .q (s.eaDisp .q n (zeroExt disp)) m s

/-- `CEfd-6nm3` MOV.Q @(Rm, disp6), Rn: R270. -/
def execMovQAtRmDisp6Rn (m : BitVec 5) (disp : BitVec 6) (n : BitVec 5) (s : State) : Result :=
  loadReg .long .q loadSigned (s.eaDisp .q m (zeroExt disp)) n s

/-- `0nm5` MOV.W Rm, @(R0, Rn): R271. -/
def execMovWRmAtR0Rn (m n : BitVec 4) (s : State) : Result := storeReg .short .w (s.eaR0 (lo n)) (lo m) s

/-- `0nmD` MOV.W @(R0, Rm), Rn: R272. -/
def execMovWAtR0RmRn (m n : BitVec 4) (s : State) : Result := loadReg .short .w loadSigned (s.eaR0 (lo m)) (lo n) s

/-- `2nm1` MOV.W Rm, @Rn: R271. -/
def execMovWRmAtRn (m n : BitVec 4) (s : State) : Result := storeReg .short .w (s.reg (lo n)) (lo m) s

/-- `2nm5` MOV.W Rm, @-Rn: R271. -/
def execMovWRmDecRn (m n : BitVec 4) (s : State) : Result := storeDec (lo n) 2 (s.reg (lo m)) s

/-- `4mD1` MOV.W Rm, @(PC, R0): R271. -/
def execMovWRmAtPcR0 (m : BitVec 4) (s : State) : Result := notInSlot s (storeReg .short .w s.eaPcR0 (lo m) s)

/-- `4nD5` MOV.W @(PC, R0), Rn: R272. -/
def execMovWAtPcR0Rn (n : BitVec 4) (s : State) : Result :=
  notInSlot s (loadReg .short .w loadSigned s.eaPcR0 (lo n) s)

/-- `6nm1` MOV.W @Rm, Rn: R272. -/
def execMovWAtRmRn (m n : BitVec 4) (s : State) : Result := loadReg .short .w loadSigned (s.reg (lo m)) (lo n) s

/-- `6nm5` MOV.W @Rm+, Rn: R272. -/
def execMovWIncRmRn (m n : BitVec 4) (s : State) : Result := loadRegInc .w loadSigned (lo m) (lo n) s

/-- `9ndd` MOV.W @(PC, disp8), Rn: R272. -/
def execMovWAtPcDisp8Rn (disp : BitVec 8) (n : BitVec 4) (s : State) : Result :=
  notInSlot s (loadReg .short .w loadSigned (s.eaPcDispW disp) (lo n) s)

/-- `8Eod-0nm5` MOV.W Rm, @(Rn, Ro, disp4): R271. -/
def execMovWRmAtRnRoDisp4 (m n o disp : BitVec 4) (s : State) : Result :=
  storeReg .long .w (s.eaIndex .w (lo n) (lo o) (zeroExt disp)) (lo m) s

/-- `8Eod-0nmD` MOV.W @(Rm, Ro, disp4), Rn: R272. -/
def execMovWAtRmRoDisp4Rn (m o disp n : BitVec 4) (s : State) : Result :=
  loadReg .long .w loadSigned (s.eaIndex .w (lo m) (lo o) (zeroExt disp)) (lo n) s

/-- `8Edd-2nm1` MOV.W Rm, @(Rn, disp8s): R271. -/
def execMovWRmAtRnDisp8s (m n : BitVec 4) (disp : BitVec 8) (s : State) : Result :=
  storeReg .long .w (s.eaDisp .w (lo n) (signExt disp)) (lo m) s

/-- `8Edd-6nm1` MOV.W @(Rm, disp8s), Rn: R272. -/
def execMovWAtRmDisp8sRn (m : BitVec 4) (disp : BitVec 8) (n : BitVec 4) (s : State) : Result :=
  loadReg .long .w loadSigned (s.eaDisp .w (lo m) (signExt disp)) (lo n) s

/-- `CEeo-0nm5` MOV.W Rm, @(Rn, Ro): R271. -/
def execMovWRmAtRnRo (m n o : BitVec 5) (s : State) : Result := storeReg .long .w (s.eaIndex .w n o 0#64) m s

/-- `CEfd-2nm1` MOV.W Rm, @(Rn, disp6): R271. -/
def execMovWRmAtRnDisp6 (m n : BitVec 5) (disp : BitVec 6) (s : State) : Result :=
  storeReg .long .w (s.eaDisp .w n (zeroExt disp)) m s

/-- `CEeo-0nmD` MOV.W @(Rm, Ro), Rn: R272. -/
def execMovWAtRmRoRn (m o n : BitVec 5) (s : State) : Result :=
  loadReg .long .w loadSigned (s.eaIndex .w m o 0#64) n s

/-- `CEfd-6nm1` MOV.W @(Rm, disp6), Rn: R272. -/
def execMovWAtRmDisp6Rn (m : BitVec 5) (disp : BitVec 6) (n : BitVec 5) (s : State) : Result :=
  loadReg .long .w loadSigned (s.eaDisp .w m (zeroExt disp)) n s

/-- `0nC3` MOVCA.L R0, @Rn: R274. -/
def execMovcaL (n : BitVec 4) (s : State) : Result := storeReg .short .l (s.reg (lo n)) 0#5 s

/-- `8Edd-6nmC` MOVU.B @(Rm, disp8s), Rn: R275. -/
def execMovuBAtRmDisp8sRn (m : BitVec 4) (disp : BitVec 8) (n : BitVec 4) (s : State) : Result :=
  loadReg .long .b loadUnsigned (s.eaDisp .b (lo m) (signExt disp)) (lo n) s

/-- `CEfd-6nmC` MOVU.B @(Rm, disp6), Rn: R275. -/
def execMovuBAtRmDisp6Rn (m : BitVec 5) (disp : BitVec 6) (n : BitVec 5) (s : State) : Result :=
  loadReg .long .b loadUnsigned (s.eaDisp .b m (zeroExt disp)) n s

/-- `8Edd-6nmD` MOVU.W @(Rm, disp8s), Rn: R276. -/
def execMovuWAtRmDisp8sRn (m : BitVec 4) (disp : BitVec 8) (n : BitVec 4) (s : State) : Result :=
  loadReg .long .w loadUnsigned (s.eaDisp .w (lo m) (signExt disp)) (lo n) s

/-- `CEfd-6nmD` MOVU.W @(Rm, disp6), Rn: R276. -/
def execMovuWAtRmDisp6Rn (m : BitVec 5) (disp : BitVec 6) (n : BitVec 5) (s : State) : Result :=
  loadReg .long .w loadUnsigned (s.eaDisp .w m (zeroExt disp)) n s

/-- `8Edd-6nmE` MOVU.L @(Rm, disp8s), Rn: R277. -/
def execMovuLAtRmDisp8sRn (m : BitVec 4) (disp : BitVec 8) (n : BitVec 4) (s : State) : Result :=
  loadReg .long .l loadUnsigned (s.eaDisp .l (lo m) (signExt disp)) (lo n) s

/-- `CEfd-6nmE` MOVU.L @(Rm, disp6), Rn: R277. -/
def execMovuLAtRmDisp6Rn (m : BitVec 5) (disp : BitVec 6) (n : BitVec 5) (s : State) : Result :=
  loadReg .long .l loadUnsigned (s.eaDisp .l m (zeroExt disp)) n s

/-- `4n58` POP.Q Rn (R0..R15): R278. -/
def execPopQRn (n : BitVec 4) (s : State) : Result := loadRegInc .q loadSigned regSp (lo n) s

/-- `4n78` POP.Q Rn (R16..R31): R278. -/
def execPopQRnHi (n : BitVec 4) (s : State) : Result := loadRegInc .q loadSigned regSp (hi n) s

/-- `4m48` PUSH.Q Rm (R0..R15): R279. -/
def execPushQRm (m : BitVec 4) (s : State) : Result := storeDec regSp 8 (s.reg (lo m)) s

/-- `4m68` PUSH.Q Rm (R16..R31): R279. -/
def execPushQRmHi (m : BitVec 4) (s : State) : Result := storeDec regSp 8 (s.reg (hi m)) s

end Sys2Proof.Machine
end

