-- ==== Sys2Proof/Machine/Logic.lean ====
section
/-!
DEFINITION. Sys2Proof/Machine/Logic.lean: the logical, move, extend and select instructions (41_int_logic_move.md), one meaning for each row.
Sources come first and the destination last, as in the listings; `lo` and `hi` place a 4-bit register field.
-/
namespace Sys2Proof.Machine

/-- The two low bytes exchanged, the rest copied (41_int_logic_move.md R197; log 14, 45). -/
def swapBytes (v : QWord) : QWord := v.extractLsb' 16 48 ++ (v.extractLsb' 0 8 ++ v.extractLsb' 8 8)
/-- The two low Words exchanged, the rest copied (41_int_logic_move.md R198; log 14, 45). -/
def swapWords (v : QWord) : QWord := v.extractLsb' 32 32 ++ (v.extractLsb' 0 16 ++ v.extractLsb' 16 16)
/-- The middle 32 bits of Rm:Rn, of their low halves (41_int_logic_move.md R204). -/
def extractMiddle (m n : QWord) : DWord := m.extractLsb' 0 16 ++ n.extractLsb' 16 16

/-- `2nm9` AND Rm, Rn: R180. -/
def execAndRmRn (m n : BitVec 4) (s : State) : Result :=
  writeReg .short (lo n) (andW (s.width false) (s.reg (lo n)) (s.reg (lo m))) s

/-- `C9jj` AND #imm8, R0: R181. -/
def execAndImm8R0 (imm : BitVec 8) (s : State) : Result :=
  writeReg .short 0#5 (andW (s.width false) (s.reg 0#5) (zeroExt imm)) s

/-- `8Eii-C9ni` AND #imm12s, Rn: R181. -/
def execAndImm12sRn (imm : BitVec 12) (n : BitVec 4) (s : State) : Result :=
  writeReg .long (lo n) (andW (s.width false) (s.reg (lo n)) (signExt imm)) s

/-- `8Ejj-2nm9` AND Rm, #imm8, Rn: R182. -/
def execAndRmImm8Rn (m : BitVec 4) (imm : BitVec 8) (n : BitVec 4) (s : State) : Result :=
  writeReg .long (lo n) (andW (s.width false) (s.reg (lo m)) (zeroExt imm)) s

/-- `CEfj-2nm9` AND Rm, #imm6, Rn: R182. -/
def execAndRmImm6Rn (m : BitVec 5) (imm : BitVec 6) (n : BitVec 5) (s : State) : Result :=
  writeReg .long n (andW (s.width false) (s.reg m) (zeroExt imm)) s

/-- `8Ejj-3nm9` AND Rm, #-imm8, Rn: R182. -/
def execAndRmNegImm8Rn (m : BitVec 4) (imm : BitVec 8) (n : BitVec 4) (s : State) : Result :=
  writeReg .long (lo n) (andW (s.width false) (s.reg (lo m)) (onesExt imm)) s

/-- `CEfj-3nm9` AND Rm, #-imm6, Rn: R182. -/
def execAndRmNegImm6Rn (m : BitVec 5) (imm : BitVec 6) (n : BitVec 5) (s : State) : Result :=
  writeReg .long n (andW (s.width false) (s.reg m) (onesExt imm)) s

/-- `CEeo-Anm3` AND Rm, Ro, Rn: R182. -/
def execAndRmRoRn (q : Bool) (m o n : BitVec 5) (s : State) : Result :=
  writeReg .long n (andW (s.width q) (s.reg m) (s.reg o)) s

/-- `CEeo-AnmA` CSELT Rm, Ro, Rn: R183. -/
def execCselt (m o n : BitVec 5) (s : State) : Result := writeReg .long n (if s.flagT then s.reg m else s.reg o) s

/-- `4n50` EXTS.B Rn: R184. -/
def execExtsBRn (n : BitVec 4) (s : State) : Result :=
  writeReg .short (lo n) ((lowByte (s.reg (lo n))).signExtend 64) s

/-- `6nmE` EXTS.B Rm, Rn: R184 (marked `?`, log 9). -/
def execExtsBRmRn (m n : BitVec 4) (s : State) : Result :=
  writeReg .short (lo n) ((lowByte (s.reg (lo m))).signExtend 64) s

/-- `CEeE-6nmF` EXTS.B Rm, Rn: R184. -/
def execExtsBRmRnCe (m n : BitVec 5) (s : State) : Result := writeReg .long n ((lowByte (s.reg m)).signExtend 64) s

/-- `4n54` EXTS.L Rn: R185. -/
def execExtsL (n : BitVec 4) (s : State) : Result :=
  writeReg .short (lo n) ((lowDword (s.reg (lo n))).signExtend 64) s

/-- `4n51` EXTS.W Rn: R186. -/
def execExtsWRn (n : BitVec 4) (s : State) : Result :=
  writeReg .short (lo n) ((lowWord (s.reg (lo n))).signExtend 64) s

/-- `6nmF` EXTS.W Rm, Rn: R186 (marked `?`, log 9). -/
def execExtsWRmRn (m n : BitVec 4) (s : State) : Result :=
  writeReg .short (lo n) ((lowWord (s.reg (lo m))).signExtend 64) s

/-- `CEeF-6nmF` EXTS.W Rm, Rn: R186. -/
def execExtsWRmRnCe (m n : BitVec 5) (s : State) : Result := writeReg .long n ((lowWord (s.reg m)).signExtend 64) s

/-- `4n40` EXTU.B Rn: R187. -/
def execExtuBRn (n : BitVec 4) (s : State) : Result := writeReg .short (lo n) ((lowByte (s.reg (lo n))).setWidth 64) s

/-- `6nmC` EXTU.B Rm, Rn: R187 (marked `?`, log 9). -/
def execExtuBRmRn (m n : BitVec 4) (s : State) : Result :=
  writeReg .short (lo n) ((lowByte (s.reg (lo m))).setWidth 64) s

/-- `CEeC-6nmF` EXTU.B Rm, Rn: R187. -/
def execExtuBRmRnCe (m n : BitVec 5) (s : State) : Result := writeReg .long n ((lowByte (s.reg m)).setWidth 64) s

/-- `4n44` EXTU.L Rn: R188. -/
def execExtuLRn (n : BitVec 4) (s : State) : Result :=
  writeReg .short (lo n) ((lowDword (s.reg (lo n))).setWidth 64) s

/-- `CEeD-6nmF` EXTU.L Rm, Rn: R188. -/
def execExtuLRmRn (m n : BitVec 5) (s : State) : Result := writeReg .long n ((lowDword (s.reg m)).setWidth 64) s

/-- `4n41` EXTU.W Rn: R189. -/
def execExtuWRn (n : BitVec 4) (s : State) : Result := writeReg .short (lo n) ((lowWord (s.reg (lo n))).setWidth 64) s

/-- `6nmD` EXTU.W Rm, Rn: R189 (marked `?`, log 9). -/
def execExtuWRmRn (m n : BitVec 4) (s : State) : Result :=
  writeReg .short (lo n) ((lowWord (s.reg (lo m))).setWidth 64) s

/-- `CEeD-6nmF` EXTU.W Rm, Rn: R189. -/
def execExtuWRmRnCe (m n : BitVec 5) (s : State) : Result := writeReg .long n ((lowWord (s.reg m)).setWidth 64) s

/-- `4nmF` MOV Rm, Rn: R190. -/
def execMovRmRn (m n : BitVec 4) (s : State) : Result := writeReg .short (lo n) (s.reg (lo m)) s

/-- `CEe0-4nmF` MOV Rm, Rn: R190. -/
def execMovRmRnCe (m n : BitVec 5) (s : State) : Result := writeReg .long n (s.reg m) s

/-- `Enii` MOV #imm8s, Rn: R191. -/
def execMovImm8sRn (imm : BitVec 8) (n : BitVec 4) (s : State) : Result := writeReg .short (lo n) (signExt imm) s

/-- `8Eii-Enii` MOV #imm16s, Rn (R0..R15): R191. -/
def execMovImm16sRn (imm : BitVec 16) (n : BitVec 4) (s : State) : Result := writeReg .long (lo n) (signExt imm) s

/-- `CEii-Enii` MOV #imm16s, Rn (R16..R31): R191. -/
def execMovImm16sRnHi (imm : BitVec 16) (n : BitVec 4) (s : State) : Result := writeReg .long (hi n) (signExt imm) s

/-- `0n29` MOVT Rn: R192. -/
def execMovt (n : BitVec 4) (s : State) : Result := writeReg .short (lo n) (BitVec.ofNat 64 s.flagT.toNat) s

/-- `3nmB` NOT Rm, Rn: R193. -/
def execNotRmRn (m n : BitVec 4) (s : State) : Result :=
  writeReg .short (lo n) (notW (s.width false) (s.reg (lo m))) s

/-- `CEe7-4nmF` NOT Rm, Rn: R193. -/
def execNotRmRnCe (q : Bool) (m n : BitVec 5) (s : State) : Result := writeReg .long n (notW (s.width q) (s.reg m)) s

/-- `2nmB` OR Rm, Rn: R194. -/
def execOrRmRn (m n : BitVec 4) (s : State) : Result :=
  writeReg .short (lo n) (orW (s.width false) (s.reg (lo n)) (s.reg (lo m))) s

/-- `CEeB-4nmF` OR Rm, Rn: R194. -/
def execOrRmRnCe (q : Bool) (m n : BitVec 5) (s : State) : Result :=
  writeReg .long n (orW (s.width q) (s.reg n) (s.reg m)) s

/-- `CBjj` OR #imm8, R0: R195. -/
def execOrImm8R0 (imm : BitVec 8) (s : State) : Result :=
  writeReg .short 0#5 (orW (s.width false) (s.reg 0#5) (zeroExt imm)) s

/-- `8Eii-CBni` OR #imm12s, Rn: R195. -/
def execOrImm12sRn (imm : BitVec 12) (n : BitVec 4) (s : State) : Result :=
  writeReg .long (lo n) (orW (s.width false) (s.reg (lo n)) (signExt imm)) s

/-- `8Ejj-2nmB` OR Rm, #imm8, Rn: R196. -/
def execOrRmImm8Rn (m : BitVec 4) (imm : BitVec 8) (n : BitVec 4) (s : State) : Result :=
  writeReg .long (lo n) (orW (s.width false) (s.reg (lo m)) (zeroExt imm)) s

/-- `CEfj-2nmB` OR Rm, #imm6, Rn: R196. -/
def execOrRmImm6Rn (m : BitVec 5) (imm : BitVec 6) (n : BitVec 5) (s : State) : Result :=
  writeReg .long n (orW (s.width false) (s.reg m) (zeroExt imm)) s

/-- `CEeo-Anm4` OR Rm, Ro, Rn: R196. -/
def execOrRmRoRn (q : Bool) (m o n : BitVec 5) (s : State) : Result :=
  writeReg .long n (orW (s.width q) (s.reg m) (s.reg o)) s

/-- `4n49` SWAP.B Rn: R197. -/
def execSwapBRn (n : BitVec 4) (s : State) : Result := writeReg .short (lo n) (swapBytes (s.reg (lo n))) s

/-- `CEe8-6nmF` SWAP.B Rm, Rn: R197. -/
def execSwapBRmRn (m n : BitVec 5) (s : State) : Result := writeReg .long n (swapBytes (s.reg m)) s

/-- `4n59` SWAP.W Rn: R198. -/
def execSwapWRn (n : BitVec 4) (s : State) : Result := writeReg .short (lo n) (swapWords (s.reg (lo n))) s

/-- `CEe9-6nmF` SWAP.W Rm, Rn: R198. -/
def execSwapWRmRn (m n : BitVec 5) (s : State) : Result := writeReg .long n (swapWords (s.reg m)) s

/-- `2nm8` TST Rm, Rn: R199. -/
def execTstRmRn (m n : BitVec 4) (s : State) : Result :=
  writeT .short (tstW (s.width false) (s.reg (lo n)) (s.reg (lo m))) s

/-- `CEe8-4nmF` TST Rm, Rn: R199. -/
def execTstRmRnCe (q : Bool) (m n : BitVec 5) (s : State) : Result :=
  writeT .long (tstW (s.width q) (s.reg n) (s.reg m)) s

/-- `C8jj` TST #imm8, R0: R200. -/
def execTstImm8R0 (imm : BitVec 8) (s : State) : Result :=
  writeT .short (tstW (s.width false) (s.reg 0#5) (zeroExt imm)) s

/-- `8Eii-C8ni` TST #imm12s, Rn: R200. -/
def execTstImm12sRn (imm : BitVec 12) (n : BitVec 4) (s : State) : Result :=
  writeT .long (tstW (s.width false) (s.reg (lo n)) (signExt imm)) s

/-- `CEfi-C8ni` TST #imm10s, Rn: R200. -/
def execTstImm10sRn (q : Bool) (imm : BitVec 10) (n : BitVec 5) (s : State) : Result :=
  writeT .long (tstW (s.width q) (s.reg n) (signExt imm)) s

/-- `2nmA` XOR Rm, Rn: R201. -/
def execXorRmRn (m n : BitVec 4) (s : State) : Result :=
  writeReg .short (lo n) (xorW (s.width false) (s.reg (lo n)) (s.reg (lo m))) s

/-- `CEeA-4nmF` XOR Rm, Rn: R201. -/
def execXorRmRnCe (q : Bool) (m n : BitVec 5) (s : State) : Result :=
  writeReg .long n (xorW (s.width q) (s.reg n) (s.reg m)) s

/-- `CAjj` XOR #imm8, R0: R202. -/
def execXorImm8R0 (imm : BitVec 8) (s : State) : Result :=
  writeReg .short 0#5 (xorW (s.width false) (s.reg 0#5) (zeroExt imm)) s

/-- `8Eii-CAni` XOR #imm12s, Rn: R202. -/
def execXorImm12sRn (imm : BitVec 12) (n : BitVec 4) (s : State) : Result :=
  writeReg .long (lo n) (xorW (s.width false) (s.reg (lo n)) (signExt imm)) s

/-- `CEfi-CAni` XOR #imm10s, Rn: R202. -/
def execXorImm10sRn (q : Bool) (imm : BitVec 10) (n : BitVec 5) (s : State) : Result :=
  writeReg .long n (xorW (s.width q) (s.reg n) (signExt imm)) s

/-- `8Ejj-2nmA` XOR Rm, #imm8, Rn: R203. -/
def execXorRmImm8Rn (m : BitVec 4) (imm : BitVec 8) (n : BitVec 4) (s : State) : Result :=
  writeReg .long (lo n) (xorW (s.width false) (s.reg (lo m)) (zeroExt imm)) s

/-- `CEfj-2nmA` XOR Rm, #imm6, Rn: R203. -/
def execXorRmImm6Rn (m : BitVec 5) (imm : BitVec 6) (n : BitVec 5) (s : State) : Result :=
  writeReg .long n (xorW (s.width false) (s.reg m) (zeroExt imm)) s

/-- `CEeo-Anm5` XOR Rm, Ro, Rn: R203. -/
def execXorRmRoRn (q : Bool) (m o n : BitVec 5) (s : State) : Result :=
  writeReg .long n (xorW (s.width q) (s.reg m) (s.reg o)) s

/-- `08F8` XTRCT R4, R0: R204. -/
def execXtrctR4R0 (s : State) : Result :=
  writeReg .short 0#5 ((extractMiddle (s.reg 4#5) (s.reg 0#5)).signExtend 64) s

/-- `09F8` XTRCT R0, R4: R204. -/
def execXtrctR0R4 (s : State) : Result :=
  writeReg .short 4#5 ((extractMiddle (s.reg 0#5) (s.reg 4#5)).signExtend 64) s

end Sys2Proof.Machine
end

