-- ==== Sys2Proof/Machine/Shift.lean ====
section
/-!
DEFINITION. Sys2Proof/Machine/Shift.lean: the shifts and rotates (42_int_shift.md), one meaning for each row.
Sources come first and the destination last, as in the listings; `lo` and `hi` place a 4-bit register field.
-/
namespace Sys2Proof.Machine

/-- The two halves exchanged (42_int_shift.md R221). -/
def rotate32 (v : QWord) : QWord := v.extractLsb' 0 32 ++ v.extractLsb' 32 32

/-- `4n14` ROT32 Rn: R221. -/
def execRot32 (n : BitVec 4) (s : State) : Result := writeReg .short (lo n) (rotate32 (s.reg (lo n))) s

/-- `4n24` ROTCL Rn: R222. -/
def execRotcl (n : BitVec 4) (s : State) : Result :=
  writeRegT .short (lo n) (shiftLeft1 (s.width false) (s.reg (lo n)) s.flagT) s

/-- `4n25` ROTCR Rn: R223. -/
def execRotcr (n : BitVec 4) (s : State) : Result :=
  writeRegT .short (lo n) (shiftRight1 (s.width false) (s.reg (lo n)) s.flagT) s

/-- `4n04` ROTL Rn: R224. -/
def execRotl (n : BitVec 4) (s : State) : Result :=
  writeRegT .short (lo n) (shiftLeft1 (s.width false) (s.reg (lo n)) (topBit (s.width false) (s.reg (lo n)))) s

/-- `4n05` ROTR Rn: R225. -/
def execRotr (n : BitVec 4) (s : State) : Result :=
  writeRegT .short (lo n) (shiftRight1 (s.width false) (s.reg (lo n)) (lowBit (s.reg (lo n)))) s

/-- `4nmC` SHAD Rm, Rn: R226. -/
def execShadRmRn (m n : BitVec 4) (s : State) : Result :=
  writeReg .short (lo n) (s.barrel .arith false (s.reg (lo n)) (s.reg (lo m))) s

/-- `CEeC-4nmF` SHAD Rm, Rn: R226. -/
def execShadRmRnCe (q : Bool) (m n : BitVec 5) (s : State) : Result :=
  writeReg .long n (s.barrel .arith q (s.reg n) (s.reg m)) s

/-- `8Eii-4nmC` SHAD Rm, #imm, Rn: R227. -/
def execShadRmImmRn (m : BitVec 4) (imm : BitVec 8) (n : BitVec 4) (s : State) : Result :=
  writeReg .long (lo n) (s.barrel .arith false (s.reg (lo m)) (signExt imm)) s

/-- `CEeo-Anm8` SHAD Rm, Ro, Rn: R227. -/
def execShadRmRoRn (q : Bool) (m o n : BitVec 5) (s : State) : Result :=
  writeReg .long n (s.barrel .arith q (s.reg m) (s.reg o)) s

/-- `CEfi-4nmC` SHAD.L Rm, #imm6, Rn: R227. -/
def execShadL (m : BitVec 5) (imm : BitVec 6) (n : BitVec 5) (s : State) : Result :=
  writeReg .long n (barrelShift .arith false s.launch.shiftWidthDq0 (s.reg m) (signExt imm)) s

/-- `4n20` SHAL Rn: R228. -/
def execShal (n : BitVec 4) (s : State) : Result :=
  writeRegT .short (lo n) (shiftLeft1 (s.width false) (s.reg (lo n)) false) s

/-- `CEfj-3nmD` SHAL.Q Rm, #imm6, Rn (alias SHLL.Q): R229. -/
def execShalQ (m : BitVec 5) (imm : BitVec 6) (n : BitVec 5) (s : State) : Result :=
  writeReg .long n (s.reg m <<< imm.toNat) s

/-- `4n21` SHAR Rn: R230. -/
def execSharRn (n : BitVec 4) (s : State) : Result :=
  writeRegT .short (lo n) (shiftRight1 (s.width false) (s.reg (lo n)) (topBit (s.width false) (s.reg (lo n)))) s

/-- `CEfj-3nmA` SHAR.Q Rm, #imm6, Rn: R231. -/
def execSharQ (m : BitVec 5) (imm : BitVec 6) (n : BitVec 5) (s : State) : Result :=
  writeReg .long n ((s.reg m).sshiftRight imm.toNat) s

/-- `CEeo-Anm9` SHAR Rm, Ro, Rn: R231. -/
def execSharRmRoRn (q : Bool) (m o n : BitVec 5) (s : State) : Result :=
  writeReg .long n (s.barrel .arith q (s.reg m) (s.negAmount q (s.reg o))) s

/-- `4nmD` SHLD Rm, Rn: R232. -/
def execShldRmRn (m n : BitVec 4) (s : State) : Result :=
  writeReg .short (lo n) (s.barrel .logic false (s.reg (lo n)) (s.reg (lo m))) s

/-- `8Eii-4nmD` SHLD Rm, #imm8, Rn: R233. -/
def execShldRmImm8Rn (m : BitVec 4) (imm : BitVec 8) (n : BitVec 4) (s : State) : Result :=
  writeReg .long (lo n) (s.barrel .logic false (s.reg (lo m)) (signExt imm)) s

/-- `CEfi-4nmD` SHLD Rm, #imm6, Rn: R233. -/
def execShldRmImm6Rn (m : BitVec 5) (imm : BitVec 6) (n : BitVec 5) (s : State) : Result :=
  writeReg .long n (s.barrel .logic false (s.reg m) (signExt imm)) s

/-- `CEeo-Anm6` SHLD Rm, Ro, Rn: R233. -/
def execShldRmRoRn (q : Bool) (m o n : BitVec 5) (s : State) : Result :=
  writeReg .long n (s.barrel .logic q (s.reg m) (s.reg o)) s

/-- `4n00` SHLL Rn: R234. -/
def execShll (n : BitVec 4) (s : State) : Result :=
  writeRegT .short (lo n) (shiftLeft1 (s.width false) (s.reg (lo n)) false) s

/-- `4n08` SHLL2 Rn: R236. -/
def execShll2 (n : BitVec 4) (s : State) : Result :=
  writeReg .short (lo n) (shiftLeftW (s.width false) (s.reg (lo n)) 2) s

/-- `4n34` SHLL4 Rn: R237. -/
def execShll4 (n : BitVec 4) (s : State) : Result :=
  writeReg .short (lo n) (shiftLeftW (s.width false) (s.reg (lo n)) 4) s

/-- `4n18` SHLL8 Rn: R238. -/
def execShll8 (n : BitVec 4) (s : State) : Result :=
  writeReg .short (lo n) (shiftLeftW (s.width false) (s.reg (lo n)) 8) s

/-- `4n28` SHLL16 Rn: R239. -/
def execShll16 (n : BitVec 4) (s : State) : Result :=
  writeReg .short (lo n) (shiftLeftW (s.width false) (s.reg (lo n)) 16) s

/-- `4n38` SHLL32 Rn: R240. -/
def execShll32 (n : BitVec 4) (s : State) : Result := writeReg .short (lo n) ((s.reg (lo n)) <<< 32) s

/-- `4n01` SHLR Rn: R241. -/
def execShlrRn (n : BitVec 4) (s : State) : Result :=
  writeRegT .short (lo n) (shiftRight1 (s.width false) (s.reg (lo n)) false) s

/-- `CEfj-3nmB` SHLR.Q Rm, #imm6, Rn: R242. -/
def execShlrQ (m : BitVec 5) (imm : BitVec 6) (n : BitVec 5) (s : State) : Result :=
  writeReg .long n (s.reg m >>> imm.toNat) s

/-- `CEeo-Anm7` SHLR Rm, Ro, Rn: R242. -/
def execShlrRmRoRn (q : Bool) (m o n : BitVec 5) (s : State) : Result :=
  writeReg .long n (s.barrel .logic q (s.reg m) (s.negAmount q (s.reg o))) s

/-- `4n09` SHLR2 Rn: R243. -/
def execShlr2 (n : BitVec 4) (s : State) : Result :=
  writeReg .short (lo n) (shiftRightW (s.width false) (s.reg (lo n)) 2) s

/-- `4n35` SHLR4 Rn: R244. -/
def execShlr4 (n : BitVec 4) (s : State) : Result :=
  writeReg .short (lo n) (shiftRightW (s.width false) (s.reg (lo n)) 4) s

/-- `4n19` SHLR8 Rn: R245. -/
def execShlr8 (n : BitVec 4) (s : State) : Result :=
  writeReg .short (lo n) (shiftRightW (s.width false) (s.reg (lo n)) 8) s

/-- `4n29` SHLR16 Rn: R246. -/
def execShlr16 (n : BitVec 4) (s : State) : Result :=
  writeReg .short (lo n) (shiftRightW (s.width false) (s.reg (lo n)) 16) s

/-- `4n39` SHLR32 Rn: R247. -/
def execShlr32 (n : BitVec 4) (s : State) : Result := writeReg .short (lo n) ((s.reg (lo n)) >>> 32) s

end Sys2Proof.Machine
end

