-- ==== Sys2Proof/Machine/System.lean ====
section
/-!
DEFINITION. Sys2Proof/Machine/System.lean: the system and control instructions (45_int_system.md), one meaning for each row.
Sources come first and the destination last, as in the listings; `lo` and `hi` place a 4-bit register field.
-/
namespace Sys2Proof.Machine

/-- `003B` BRK: R330. -/
def execBrk (s : State) : Result := raise .breakpoint s

/-- `0028` CLRMAC: R331. -/
def execClrmac (s : State) : Result := .next ({ s with mach := 0#32, macl := 0#32 }.retire .short)

/-- `0048` CLRS: R332. -/
def execClrs (s : State) : Result := .next ((s.setS false).retire .short)

/-- `0008` CLRT: R333. -/
def execClrt (s : State) : Result := .next ((s.setT false).retire .short)

/-- `4m0E` LDC Rm, SR: R334. -/
def execLdcRmSr (m : BitVec 4) (s : State) : Result :=
  if jqOf (lowDword (s.reg (lo m)) &&& s.launch.srWriteMask) then
    .next ({ s with sr := lowDword (s.reg (lo m)) &&& s.launch.srWriteMask }.retire .short)
  else .refused (.srJqClear s.pc)

/-- `4m1E` LDC Rm, GBR: R334. -/
def execLdcRmGbr (m : BitVec 4) (s : State) : Result := .next ({ s with gbr := s.reg (lo m) }.retire .short)

/-- `4m2E` LDC Rm, VBR: R334. -/
def execLdcRmVbr (m : BitVec 4) (s : State) : Result := .next ({ s with vbr := s.reg (lo m) }.retire .short)

/-- `4m3E` LDC Rm, SSR: R334. -/
def execLdcRmSsr (m : BitVec 4) (s : State) : Result :=
  .next ({ s with ssr := lowDword (s.reg (lo m)) }.retire .short)

/-- `4m4E` LDC Rm, SPC: R334. -/
def execLdcRmSpc (m : BitVec 4) (s : State) : Result := .next ({ s with spc := s.reg (lo m) }.retire .short)

/-- `4mNE` LDC Rm, RnB: R334. -/
def execLdcRmBank (m : BitVec 4) (b : BitVec 3) (s : State) : Result :=
  .next ((s.setBankReg b (s.reg (lo m))).retire .short)

/-- `4mFA` LDC Rm, DBR: R334. -/
def execLdcRmDbr (m : BitVec 4) (s : State) : Result := .next ({ s with dbr := s.reg (lo m) }.retire .short)

/-- `4m07` LDC.L @Rm+, SR: R335. -/
def execLdcLIncRmSr (m : BitVec 4) (s : State) : Result :=
  loadSysChecked (lo m) (fun v => !jqOf (v &&& s.launch.srWriteMask)) (.srJqClear s.pc)
    (fun v t => { t with sr := v &&& s.launch.srWriteMask }) s

/-- `4m17` LDC.L @Rm+, GBR: R335. -/
def execLdcLIncRmGbr (m : BitVec 4) (s : State) : Result :=
  loadSys (lo m) (fun v t => { t with gbr := v.signExtend 64 }) s

/-- `4m27` LDC.L @Rm+, VBR: R335. -/
def execLdcLIncRmVbr (m : BitVec 4) (s : State) : Result :=
  loadSys (lo m) (fun v t => { t with vbr := v.signExtend 64 }) s

/-- `4m37` LDC.L @Rm+, SSR: R335. -/
def execLdcLIncRmSsr (m : BitVec 4) (s : State) : Result := loadSys (lo m) (fun v t => { t with ssr := v }) s

/-- `4m47` LDC.L @Rm+, SPC: R335. -/
def execLdcLIncRmSpc (m : BitVec 4) (s : State) : Result :=
  loadSys (lo m) (fun v t => { t with spc := v.signExtend 64 }) s

/-- `4mN7` LDC.L @Rm+, RnB: R335. -/
def execLdcLIncRmBank (m : BitVec 4) (b : BitVec 3) (s : State) : Result :=
  loadSys (lo m) (fun v t => t.setBankReg b (v.signExtend 64)) s

/-- `4mF6` LDC.L @Rm+, DBR: R335. -/
def execLdcLIncRmDbr (m : BitVec 4) (s : State) : Result :=
  loadSys (lo m) (fun v t => { t with dbr := v.signExtend 64 }) s

/-- `4m0A` LDS Rm, MACH: R336. -/
def execLdsRmMach (m : BitVec 4) (s : State) : Result :=
  .next ({ s with mach := lowDword (s.reg (lo m)) }.retire .short)

/-- `4m1A` LDS Rm, MACL: R336. -/
def execLdsRmMacl (m : BitVec 4) (s : State) : Result :=
  .next ({ s with macl := lowDword (s.reg (lo m)) }.retire .short)

/-- `4m2A` LDS Rm, PR: R336. -/
def execLdsRmPr (m : BitVec 4) (s : State) : Result := .next ({ s with pr := s.reg (lo m) }.retire .short)

/-- `4m5A` LDS Rm, FPUL: R336. -/
def execLdsRmFpul (m : BitVec 4) (s : State) : Result :=
  fpuGuard s (.next ({ s with fpul := lowDword (s.reg (lo m)) }.retire .short))

/-- `4m6A` LDS Rm, FPSCR: R336. -/
def execLdsRmFpscr (m : BitVec 4) (s : State) : Result :=
  fpuGuard s
    (if fpscrBad s.launch (lowDword (s.reg (lo m))) then .refused (.fpscrUnsupported s.pc)
     else .next ({ s with fpscr := lowDword (s.reg (lo m)) }.retire .short))

/-- `4m06` LDS.L @Rm+, MACH: R337. -/
def execLdsLIncRmMach (m : BitVec 4) (s : State) : Result := loadSys (lo m) (fun v t => { t with mach := v }) s

/-- `4m16` LDS.L @Rm+, MACL: R337. -/
def execLdsLIncRmMacl (m : BitVec 4) (s : State) : Result := loadSys (lo m) (fun v t => { t with macl := v }) s

/-- `4m26` LDS.L @Rm+, PR: R337. -/
def execLdsLIncRmPr (m : BitVec 4) (s : State) : Result :=
  loadSys (lo m) (fun v t => { t with pr := v.signExtend 64 }) s

/-- `4m56` LDS.L @Rm+, FPUL: R337. -/
def execLdsLIncRmFpul (m : BitVec 4) (s : State) : Result :=
  fpuGuard s (loadSys (lo m) (fun v t => { t with fpul := v }) s)

/-- `4m66` LDS.L @Rm+, FPSCR: R337. -/
def execLdsLIncRmFpscr (m : BitVec 4) (s : State) : Result :=
  fpuGuard s (loadSysChecked (lo m) (fpscrBad s.launch) (.fpscrUnsupported s.pc)
    (fun v t => { t with fpscr := v }) s)

/-- `0038` LDTLB: R338. -/
def execLdtlb (s : State) : Result := .refused (.ldtlb s.pc)

/-- `0009` NOP: R339. -/
def execNop (s : State) : Result := .next (s.retire .short)

/-- `0h09` NOP #imm (imm=1..14): R339. -/
def execNopImm (_imm : BitVec 4) (s : State) : Result := .next (s.retire .short)

/-- `002B` RTE: R340. -/
def execRte (s : State) : Result := notInSlot s (returnFromException s)

/-- `0058` SETS: R341. -/
def execSets (s : State) : Result := .next ((s.setS true).retire .short)

/-- `0018` SETT: R342. -/
def execSett (s : State) : Result := .next ((s.setT true).retire .short)

/-- `001B` SLEEP: R343. -/
def execSleep (s : State) : Result := .next { s with sleeping := true }

/-- `0n02` STC SR, Rn: R344 (encoding from general knowledge, log 9). -/
def execStcSrRn (n : BitVec 4) (s : State) : Result :=
  writeReg .short (lo n) ((s.sr &&& s.launch.srReadMask).setWidth 64) s

/-- `0n12` STC GBR, Rn: R344 (encoding from general knowledge, log 9). -/
def execStcGbrRn (n : BitVec 4) (s : State) : Result := writeReg .short (lo n) s.gbr s

/-- `0n22` STC VBR, Rn: R344 (encoding from general knowledge, log 9). -/
def execStcVbrRn (n : BitVec 4) (s : State) : Result := writeReg .short (lo n) s.vbr s

/-- `0n32` STC SSR, Rn: R344 (encoding from general knowledge, log 9). -/
def execStcSsrRn (n : BitVec 4) (s : State) : Result := writeReg .short (lo n) (s.ssr.setWidth 64) s

/-- `0n42` STC SPC, Rn: R344 (encoding from general knowledge, log 9). -/
def execStcSpcRn (n : BitVec 4) (s : State) : Result := writeReg .short (lo n) s.spc s

/-- `0nFA` STC DBR, Rn: R344. -/
def execStcDbrRn (n : BitVec 4) (s : State) : Result := writeReg .short (lo n) s.dbr s

/-- `0nM2` STC RmB, Rn: R344 (encoding from general knowledge, log 9). -/
def execStcBankRn (b : BitVec 3) (n : BitVec 4) (s : State) : Result := writeReg .short (lo n) (s.bankReg b) s

/-- `4n03` STC.L SR, @-Rn: R345 (encoding from general knowledge, log 9). -/
def execStcLSrDecRn (n : BitVec 4) (s : State) : Result :=
  storeSys (lo n) ((s.sr &&& s.launch.srReadMask).setWidth 64) s

/-- `4n13` STC.L GBR, @-Rn: R345 (encoding from general knowledge, log 9). -/
def execStcLGbrDecRn (n : BitVec 4) (s : State) : Result := storeSys (lo n) s.gbr s

/-- `4n23` STC.L VBR, @-Rn: R345 (encoding from general knowledge, log 9). -/
def execStcLVbrDecRn (n : BitVec 4) (s : State) : Result := storeSys (lo n) s.vbr s

/-- `4n33` STC.L SSR, @-Rn: R345 (encoding from general knowledge, log 9). -/
def execStcLSsrDecRn (n : BitVec 4) (s : State) : Result := storeSys (lo n) (s.ssr.setWidth 64) s

/-- `4n43` STC.L SPC, @-Rn: R345 (encoding from general knowledge, log 9). -/
def execStcLSpcDecRn (n : BitVec 4) (s : State) : Result := storeSys (lo n) s.spc s

/-- `4nF2` STC.L DBR, @-Rn: R345 (encoding from general knowledge, log 9). -/
def execStcLDbrDecRn (n : BitVec 4) (s : State) : Result := storeSys (lo n) s.dbr s

/-- `4nM3` STC.L RmB, @-Rn: R345 (encoding from general knowledge, log 9). -/
def execStcLBankDecRn (b : BitVec 3) (n : BitVec 4) (s : State) : Result := storeSys (lo n) (s.bankReg b) s

/-- `0n0A` STS MACH, Rn: R346. -/
def execStsMachRn (n : BitVec 4) (s : State) : Result := writeReg .short (lo n) (s.mach.signExtend 64) s

/-- `0n1A` STS MACL, Rn: R346. -/
def execStsMaclRn (n : BitVec 4) (s : State) : Result := writeReg .short (lo n) (s.macl.signExtend 64) s

/-- `0n2A` STS PR, Rn: R346. -/
def execStsPrRn (n : BitVec 4) (s : State) : Result := writeReg .short (lo n) s.pr s

/-- `0n5A` STS FPUL, Rn: R346. -/
def execStsFpulRn (n : BitVec 4) (s : State) : Result := fpuGuard s (writeReg .short (lo n) (s.fpul.signExtend 64) s)

/-- `0n6A` STS FPSCR, Rn: R346. -/
def execStsFpscrRn (n : BitVec 4) (s : State) : Result :=
  fpuGuard s (writeReg .short (lo n) (s.fpscr.signExtend 64) s)

/-- `4n02` STS.L MACH, @-Rn: R347 (encoding from general knowledge, log 9). -/
def execStsLMachDecRn (n : BitVec 4) (s : State) : Result := storeSys (lo n) (s.mach.setWidth 64) s

/-- `4n12` STS.L MACL, @-Rn: R347 (encoding from general knowledge, log 9). -/
def execStsLMaclDecRn (n : BitVec 4) (s : State) : Result := storeSys (lo n) (s.macl.setWidth 64) s

/-- `4n22` STS.L PR, @-Rn: R347 (encoding from general knowledge, log 9). -/
def execStsLPrDecRn (n : BitVec 4) (s : State) : Result := storeSys (lo n) s.pr s

/-- `4n52` STS.L FPUL, @-Rn: R347 (encoding from general knowledge, log 9). -/
def execStsLFpulDecRn (n : BitVec 4) (s : State) : Result := fpuGuard s (storeSys (lo n) (s.fpul.setWidth 64) s)

/-- `4n62` STS.L FPSCR, @-Rn: R347 (encoding from general knowledge, log 9). -/
def execStsLFpscrDecRn (n : BitVec 4) (s : State) : Result := fpuGuard s (storeSys (lo n) (s.fpscr.setWidth 64) s)

/-- `C3jj` TRAPA #imm8: R348. -/
def execTrapa (imm : BitVec 8) (s : State) : Result := notInSlot s (raise (.trap imm) s)

end Sys2Proof.Machine
end

