-- ==== Sys2Proof/Machine/Dispatch.lean ====
section
/-!
DEFINITION. Sys2Proof/Machine/Dispatch.lean: one arm for each constructor of Instr, each one call of its meaning.
-/
namespace Sys2Proof.Machine

def exec (i : Instr) (s : State) : Host.Outcome State Fault Refusal :=
  match i with
  | .addRmRn m n => Sys2Proof.Machine.execAddRmRn m n s
  | .addRmRnCe q m n => Sys2Proof.Machine.execAddRmRnCe q m n s
  | .addImm8sRn imm n => Sys2Proof.Machine.execAddImm8sRn imm n s
  | .addImm16sRn imm n => Sys2Proof.Machine.execAddImm16sRn imm n s
  | .addImm16sRnHi imm n => Sys2Proof.Machine.execAddImm16sRnHi imm n s
  | .addRmImm8Rn m imm n => Sys2Proof.Machine.execAddRmImm8Rn m imm n s
  | .addRmImm6Rn m imm n => Sys2Proof.Machine.execAddRmImm6Rn m imm n s
  | .addRmRoRn q m o n => Sys2Proof.Machine.execAddRmRoRn q m o n s
  | .addcRmRn m n => Sys2Proof.Machine.execAddcRmRn m n s
  | .addcRmRnCe q m n => Sys2Proof.Machine.execAddcRmRnCe q m n s
  | .addv q m n => Sys2Proof.Machine.execAddv q m n s
  | .cmpEqRmRn m n => Sys2Proof.Machine.execCmpEqRmRn m n s
  | .cmpEqRmRnCe q m n => Sys2Proof.Machine.execCmpEqRmRnCe q m n s
  | .cmpEqImm8sR0 imm => Sys2Proof.Machine.execCmpEqImm8sR0 imm s
  | .cmpEqImm12sRn imm n => Sys2Proof.Machine.execCmpEqImm12sRn imm n s
  | .cmpEqImm10sRn q imm n => Sys2Proof.Machine.execCmpEqImm10sRn q imm n s
  | .cmpGeImm12sRn imm n => Sys2Proof.Machine.execCmpGeImm12sRn imm n s
  | .cmpGeImm10sRn q imm n => Sys2Proof.Machine.execCmpGeImm10sRn q imm n s
  | .cmpGeRmRn q m n => Sys2Proof.Machine.execCmpGeRmRn q m n s
  | .cmpGtRmRn m n => Sys2Proof.Machine.execCmpGtRmRn m n s
  | .cmpGtImm12sRn imm n => Sys2Proof.Machine.execCmpGtImm12sRn imm n s
  | .cmpGtImm10sRn q imm n => Sys2Proof.Machine.execCmpGtImm10sRn q imm n s
  | .cmpGtRmRnCe q m n => Sys2Proof.Machine.execCmpGtRmRnCe q m n s
  | .cmpHiRmRn m n => Sys2Proof.Machine.execCmpHiRmRn m n s
  | .cmpHiImm12sRn imm n => Sys2Proof.Machine.execCmpHiImm12sRn imm n s
  | .cmpHiRmRnCe q m n => Sys2Proof.Machine.execCmpHiRmRnCe q m n s
  | .cmpHiImm10sRn q imm n => Sys2Proof.Machine.execCmpHiImm10sRn q imm n s
  | .cmpHsImm12sRn imm n => Sys2Proof.Machine.execCmpHsImm12sRn imm n s
  | .cmpHsRmRn q m n => Sys2Proof.Machine.execCmpHsRmRn q m n s
  | .cmpHsImm10sRn q imm n => Sys2Proof.Machine.execCmpHsImm10sRn q imm n s
  | .cmpPl n => Sys2Proof.Machine.execCmpPl n s
  | .cmpPz n => Sys2Proof.Machine.execCmpPz n s
  | .div0s => Sys2Proof.Machine.execDiv0s s
  | .div0u => Sys2Proof.Machine.execDiv0u s
  | .div1 => Sys2Proof.Machine.execDiv1 s
  | .dmulsL m n => Sys2Proof.Machine.execDmulsL m n s
  | .dmuluL m n => Sys2Proof.Machine.execDmuluL m n s
  | .dt n => Sys2Proof.Machine.execDt n s
  | .ldsh16zImm16Rn imm n => Sys2Proof.Machine.execLdsh16zImm16Rn imm n s
  | .ldsh16zImm16RnHi imm n => Sys2Proof.Machine.execLdsh16zImm16RnHi imm n s
  | .mulRmImm8Rn m imm n => Sys2Proof.Machine.execMulRmImm8Rn m imm n s
  | .mulRmNegImm8Rn m imm n => Sys2Proof.Machine.execMulRmNegImm8Rn m imm n s
  | .mulRmImm6Rn m imm n => Sys2Proof.Machine.execMulRmImm6Rn m imm n s
  | .mulRmNegImm6Rn m imm n => Sys2Proof.Machine.execMulRmNegImm6Rn m imm n s
  | .mulRmRoRn q m o n => Sys2Proof.Machine.execMulRmRoRn q m o n s
  | .mulLRmRn m n => Sys2Proof.Machine.execMulLRmRn m n s
  | .mulLRmRnCe m n => Sys2Proof.Machine.execMulLRmRnCe m n s
  | .mulsW m n => Sys2Proof.Machine.execMulsW m n s
  | .muluW m n => Sys2Proof.Machine.execMuluW m n s
  | .negRmRn m n => Sys2Proof.Machine.execNegRmRn m n s
  | .negRmRnCe q m n => Sys2Proof.Machine.execNegRmRnCe q m n s
  | .negcRmRn m n => Sys2Proof.Machine.execNegcRmRn m n s
  | .negcRmRnCe q m n => Sys2Proof.Machine.execNegcRmRnCe q m n s
  | .subRmRn m n => Sys2Proof.Machine.execSubRmRn m n s
  | .subRmRnCe q m n => Sys2Proof.Machine.execSubRmRnCe q m n s
  | .subRmImm8Rn m imm n => Sys2Proof.Machine.execSubRmImm8Rn m imm n s
  | .subRmImm6Rn m imm n => Sys2Proof.Machine.execSubRmImm6Rn m imm n s
  | .subRmRoRn q m o n => Sys2Proof.Machine.execSubRmRoRn q m o n s
  | .subc m n => Sys2Proof.Machine.execSubc m n s
  | .subv q m n => Sys2Proof.Machine.execSubv q m n s
  | .andRmRn m n => Sys2Proof.Machine.execAndRmRn m n s
  | .andImm8R0 imm => Sys2Proof.Machine.execAndImm8R0 imm s
  | .andImm12sRn imm n => Sys2Proof.Machine.execAndImm12sRn imm n s
  | .andRmImm8Rn m imm n => Sys2Proof.Machine.execAndRmImm8Rn m imm n s
  | .andRmImm6Rn m imm n => Sys2Proof.Machine.execAndRmImm6Rn m imm n s
  | .andRmNegImm8Rn m imm n => Sys2Proof.Machine.execAndRmNegImm8Rn m imm n s
  | .andRmNegImm6Rn m imm n => Sys2Proof.Machine.execAndRmNegImm6Rn m imm n s
  | .andRmRoRn q m o n => Sys2Proof.Machine.execAndRmRoRn q m o n s
  | .cselt m o n => Sys2Proof.Machine.execCselt m o n s
  | .extsBRn n => Sys2Proof.Machine.execExtsBRn n s
  | .extsBRmRn m n => Sys2Proof.Machine.execExtsBRmRn m n s
  | .extsBRmRnCe m n => Sys2Proof.Machine.execExtsBRmRnCe m n s
  | .extsL n => Sys2Proof.Machine.execExtsL n s
  | .extsWRn n => Sys2Proof.Machine.execExtsWRn n s
  | .extsWRmRn m n => Sys2Proof.Machine.execExtsWRmRn m n s
  | .extsWRmRnCe m n => Sys2Proof.Machine.execExtsWRmRnCe m n s
  | .extuBRn n => Sys2Proof.Machine.execExtuBRn n s
  | .extuBRmRn m n => Sys2Proof.Machine.execExtuBRmRn m n s
  | .extuBRmRnCe m n => Sys2Proof.Machine.execExtuBRmRnCe m n s
  | .extuLRn n => Sys2Proof.Machine.execExtuLRn n s
  | .extuLRmRn m n => Sys2Proof.Machine.execExtuLRmRn m n s
  | .extuWRn n => Sys2Proof.Machine.execExtuWRn n s
  | .extuWRmRn m n => Sys2Proof.Machine.execExtuWRmRn m n s
  | .extuWRmRnCe m n => Sys2Proof.Machine.execExtuWRmRnCe m n s
  | .movRmRn m n => Sys2Proof.Machine.execMovRmRn m n s
  | .movRmRnCe m n => Sys2Proof.Machine.execMovRmRnCe m n s
  | .movImm8sRn imm n => Sys2Proof.Machine.execMovImm8sRn imm n s
  | .movImm16sRn imm n => Sys2Proof.Machine.execMovImm16sRn imm n s
  | .movImm16sRnHi imm n => Sys2Proof.Machine.execMovImm16sRnHi imm n s
  | .movt n => Sys2Proof.Machine.execMovt n s
  | .notRmRn m n => Sys2Proof.Machine.execNotRmRn m n s
  | .notRmRnCe q m n => Sys2Proof.Machine.execNotRmRnCe q m n s
  | .orRmRn m n => Sys2Proof.Machine.execOrRmRn m n s
  | .orRmRnCe q m n => Sys2Proof.Machine.execOrRmRnCe q m n s
  | .orImm8R0 imm => Sys2Proof.Machine.execOrImm8R0 imm s
  | .orImm12sRn imm n => Sys2Proof.Machine.execOrImm12sRn imm n s
  | .orRmImm8Rn m imm n => Sys2Proof.Machine.execOrRmImm8Rn m imm n s
  | .orRmImm6Rn m imm n => Sys2Proof.Machine.execOrRmImm6Rn m imm n s
  | .orRmRoRn q m o n => Sys2Proof.Machine.execOrRmRoRn q m o n s
  | .swapBRn n => Sys2Proof.Machine.execSwapBRn n s
  | .swapBRmRn m n => Sys2Proof.Machine.execSwapBRmRn m n s
  | .swapWRn n => Sys2Proof.Machine.execSwapWRn n s
  | .swapWRmRn m n => Sys2Proof.Machine.execSwapWRmRn m n s
  | .tstRmRn m n => Sys2Proof.Machine.execTstRmRn m n s
  | .tstRmRnCe q m n => Sys2Proof.Machine.execTstRmRnCe q m n s
  | .tstImm8R0 imm => Sys2Proof.Machine.execTstImm8R0 imm s
  | .tstImm12sRn imm n => Sys2Proof.Machine.execTstImm12sRn imm n s
  | .tstImm10sRn q imm n => Sys2Proof.Machine.execTstImm10sRn q imm n s
  | .xorRmRn m n => Sys2Proof.Machine.execXorRmRn m n s
  | .xorRmRnCe q m n => Sys2Proof.Machine.execXorRmRnCe q m n s
  | .xorImm8R0 imm => Sys2Proof.Machine.execXorImm8R0 imm s
  | .xorImm12sRn imm n => Sys2Proof.Machine.execXorImm12sRn imm n s
  | .xorImm10sRn q imm n => Sys2Proof.Machine.execXorImm10sRn q imm n s
  | .xorRmImm8Rn m imm n => Sys2Proof.Machine.execXorRmImm8Rn m imm n s
  | .xorRmImm6Rn m imm n => Sys2Proof.Machine.execXorRmImm6Rn m imm n s
  | .xorRmRoRn q m o n => Sys2Proof.Machine.execXorRmRoRn q m o n s
  | .xtrctR4R0 => Sys2Proof.Machine.execXtrctR4R0 s
  | .xtrctR0R4 => Sys2Proof.Machine.execXtrctR0R4 s
  | .rot32 n => Sys2Proof.Machine.execRot32 n s
  | .rotcl n => Sys2Proof.Machine.execRotcl n s
  | .rotcr n => Sys2Proof.Machine.execRotcr n s
  | .rotl n => Sys2Proof.Machine.execRotl n s
  | .rotr n => Sys2Proof.Machine.execRotr n s
  | .shadRmRn m n => Sys2Proof.Machine.execShadRmRn m n s
  | .shadRmRnCe q m n => Sys2Proof.Machine.execShadRmRnCe q m n s
  | .shadRmImmRn m imm n => Sys2Proof.Machine.execShadRmImmRn m imm n s
  | .shadRmRoRn q m o n => Sys2Proof.Machine.execShadRmRoRn q m o n s
  | .shadL m imm n => Sys2Proof.Machine.execShadL m imm n s
  | .shal n => Sys2Proof.Machine.execShal n s
  | .shalQ m imm n => Sys2Proof.Machine.execShalQ m imm n s
  | .sharRn n => Sys2Proof.Machine.execSharRn n s
  | .sharQ m imm n => Sys2Proof.Machine.execSharQ m imm n s
  | .sharRmRoRn q m o n => Sys2Proof.Machine.execSharRmRoRn q m o n s
  | .shldRmRn m n => Sys2Proof.Machine.execShldRmRn m n s
  | .shldRmImm8Rn m imm n => Sys2Proof.Machine.execShldRmImm8Rn m imm n s
  | .shldRmImm6Rn m imm n => Sys2Proof.Machine.execShldRmImm6Rn m imm n s
  | .shldRmRoRn q m o n => Sys2Proof.Machine.execShldRmRoRn q m o n s
  | .shll n => Sys2Proof.Machine.execShll n s
  | .shll2 n => Sys2Proof.Machine.execShll2 n s
  | .shll4 n => Sys2Proof.Machine.execShll4 n s
  | .shll8 n => Sys2Proof.Machine.execShll8 n s
  | .shll16 n => Sys2Proof.Machine.execShll16 n s
  | .shll32 n => Sys2Proof.Machine.execShll32 n s
  | .shlrRn n => Sys2Proof.Machine.execShlrRn n s
  | .shlrQ m imm n => Sys2Proof.Machine.execShlrQ m imm n s
  | .shlrRmRoRn q m o n => Sys2Proof.Machine.execShlrRmRoRn q m o n s
  | .shlr2 n => Sys2Proof.Machine.execShlr2 n s
  | .shlr4 n => Sys2Proof.Machine.execShlr4 n s
  | .shlr8 n => Sys2Proof.Machine.execShlr8 n s
  | .shlr16 n => Sys2Proof.Machine.execShlr16 n s
  | .shlr32 n => Sys2Proof.Machine.execShlr32 n s
  | .casL => Sys2Proof.Machine.execCasL s
  | .leaBAtPcR0Rn n => Sys2Proof.Machine.execLeaBAtPcR0Rn n s
  | .leaBAtRmRoDisp4Rn m o disp n => Sys2Proof.Machine.execLeaBAtRmRoDisp4Rn m o disp n s
  | .leaBAtRmDisp8sRn m disp n => Sys2Proof.Machine.execLeaBAtRmDisp8sRn m disp n s
  | .leaBAtRmRoRn m o n => Sys2Proof.Machine.execLeaBAtRmRoRn m o n s
  | .leaBAtRmDisp6Rn m disp n => Sys2Proof.Machine.execLeaBAtRmDisp6Rn m disp n s
  | .leaWAtRmRoDisp4Rn m o disp n => Sys2Proof.Machine.execLeaWAtRmRoDisp4Rn m o disp n s
  | .leaWAtRmDisp8sRn m disp n => Sys2Proof.Machine.execLeaWAtRmDisp8sRn m disp n s
  | .leaWAtRmRoRn m o n => Sys2Proof.Machine.execLeaWAtRmRoRn m o n s
  | .leaWAtRmDisp6Rn m disp n => Sys2Proof.Machine.execLeaWAtRmDisp6Rn m disp n s
  | .leaLAtRmRoDisp4Rn m o disp n => Sys2Proof.Machine.execLeaLAtRmRoDisp4Rn m o disp n s
  | .leaLAtRmDisp8sRn m disp n => Sys2Proof.Machine.execLeaLAtRmDisp8sRn m disp n s
  | .leaLAtRmRoRn m o n => Sys2Proof.Machine.execLeaLAtRmRoRn m o n s
  | .leaLAtRmDisp6Rn m disp n => Sys2Proof.Machine.execLeaLAtRmDisp6Rn m disp n s
  | .leaQAtRmRoDisp4Rn m o disp n => Sys2Proof.Machine.execLeaQAtRmRoDisp4Rn m o disp n s
  | .leaQAtRmDisp8sRn m disp n => Sys2Proof.Machine.execLeaQAtRmDisp8sRn m disp n s
  | .leaQAtRmRoRn m o n => Sys2Proof.Machine.execLeaQAtRmRoRn m o n s
  | .leaQAtRmDisp6Rn m disp n => Sys2Proof.Machine.execLeaQAtRmDisp6Rn m disp n s
  | .movBRmAtR0Rn m n => Sys2Proof.Machine.execMovBRmAtR0Rn m n s
  | .movBRmAtRn m n => Sys2Proof.Machine.execMovBRmAtRn m n s
  | .movBRmDecRn m n => Sys2Proof.Machine.execMovBRmDecRn m n s
  | .movBAtR0RmRn m n => Sys2Proof.Machine.execMovBAtR0RmRn m n s
  | .movBAtRmRn m n => Sys2Proof.Machine.execMovBAtRmRn m n s
  | .movBIncRmRn m n => Sys2Proof.Machine.execMovBIncRmRn m n s
  | .movBRmAtPcR0 m => Sys2Proof.Machine.execMovBRmAtPcR0 m s
  | .movBAtPcR0Rn n => Sys2Proof.Machine.execMovBAtPcR0Rn n s
  | .movBRmAtRnRoDisp4 m n o disp => Sys2Proof.Machine.execMovBRmAtRnRoDisp4 m n o disp s
  | .movBRmAtRnDisp8s m n disp => Sys2Proof.Machine.execMovBRmAtRnDisp8s m n disp s
  | .movBAtRmRoDisp4Rn m o disp n => Sys2Proof.Machine.execMovBAtRmRoDisp4Rn m o disp n s
  | .movBAtRmDisp8sRn m disp n => Sys2Proof.Machine.execMovBAtRmDisp8sRn m disp n s
  | .movBRmAtRnRo m n o => Sys2Proof.Machine.execMovBRmAtRnRo m n o s
  | .movBRmAtRnDisp6 m n disp => Sys2Proof.Machine.execMovBRmAtRnDisp6 m n disp s
  | .movBAtRmRoRn m o n => Sys2Proof.Machine.execMovBAtRmRoRn m o n s
  | .movBAtRmDisp6Rn m disp n => Sys2Proof.Machine.execMovBAtRmDisp6Rn m disp n s
  | .movLRmAtR0Rn m n => Sys2Proof.Machine.execMovLRmAtR0Rn m n s
  | .movLRmAtRnDisp4 m n disp => Sys2Proof.Machine.execMovLRmAtRnDisp4 m n disp s
  | .movLRmAtRn m n => Sys2Proof.Machine.execMovLRmAtRn m n s
  | .movLRmDecRn m n => Sys2Proof.Machine.execMovLRmDecRn m n s
  | .movLAtR0RmRn m n => Sys2Proof.Machine.execMovLAtR0RmRn m n s
  | .movLAtRmDisp4Rn m disp n => Sys2Proof.Machine.execMovLAtRmDisp4Rn m disp n s
  | .movLAtRmRn m n => Sys2Proof.Machine.execMovLAtRmRn m n s
  | .movLIncRmRn m n => Sys2Proof.Machine.execMovLIncRmRn m n s
  | .movLAtPcDisp8Rn disp n => Sys2Proof.Machine.execMovLAtPcDisp8Rn disp n s
  | .movLRmAtPcR0 m => Sys2Proof.Machine.execMovLRmAtPcR0 m s
  | .movLAtPcR0Rn n => Sys2Proof.Machine.execMovLAtPcR0Rn n s
  | .movLRmAtRnRoDisp4 m n o disp => Sys2Proof.Machine.execMovLRmAtRnRoDisp4 m n o disp s
  | .movLRmAtRnRoDisp8s m n o disp => Sys2Proof.Machine.execMovLRmAtRnRoDisp8s m n o disp s
  | .movLRmAtRnDisp8s m n disp => Sys2Proof.Machine.execMovLRmAtRnDisp8s m n disp s
  | .movLAtRmRoDisp4Rn m o disp n => Sys2Proof.Machine.execMovLAtRmRoDisp4Rn m o disp n s
  | .movLAtRmRoDisp8sRn m o disp n => Sys2Proof.Machine.execMovLAtRmRoDisp8sRn m o disp n s
  | .movLAtRmDisp8sRn m disp n => Sys2Proof.Machine.execMovLAtRmDisp8sRn m disp n s
  | .movLRmAtRnRo m n o => Sys2Proof.Machine.execMovLRmAtRnRo m n o s
  | .movLRmAtRnDisp6 m n disp => Sys2Proof.Machine.execMovLRmAtRnDisp6 m n disp s
  | .movLAtRmRoRn m o n => Sys2Proof.Machine.execMovLAtRmRoRn m o n s
  | .movLAtRmDisp6Rn m disp n => Sys2Proof.Machine.execMovLAtRmDisp6Rn m disp n s
  | .movQRmAtR0Rn m n => Sys2Proof.Machine.execMovQRmAtR0Rn m n s
  | .movQAtR0RmRn m n => Sys2Proof.Machine.execMovQAtR0RmRn m n s
  | .movQRmAtRn m n => Sys2Proof.Machine.execMovQRmAtRn m n s
  | .movQRmDecRn m n => Sys2Proof.Machine.execMovQRmDecRn m n s
  | .movQRmAtPcR0 m => Sys2Proof.Machine.execMovQRmAtPcR0 m s
  | .movQAtPcR0Rn n => Sys2Proof.Machine.execMovQAtPcR0Rn n s
  | .movQAtRmRn m n => Sys2Proof.Machine.execMovQAtRmRn m n s
  | .movQIncRmRn m n => Sys2Proof.Machine.execMovQIncRmRn m n s
  | .movQRmAtSpDisp4 m disp => Sys2Proof.Machine.execMovQRmAtSpDisp4 m disp s
  | .movQAtSpDisp4Rn disp n => Sys2Proof.Machine.execMovQAtSpDisp4Rn disp n s
  | .movQRmAtRnRoDisp4 m n o disp => Sys2Proof.Machine.execMovQRmAtRnRoDisp4 m n o disp s
  | .movQAtRmRoDisp4Rn m o disp n => Sys2Proof.Machine.execMovQAtRmRoDisp4Rn m o disp n s
  | .movQRmAtRnDisp8s m n disp => Sys2Proof.Machine.execMovQRmAtRnDisp8s m n disp s
  | .movQAtRmDisp8sRn m disp n => Sys2Proof.Machine.execMovQAtRmDisp8sRn m disp n s
  | .movQRmAtRnRo m n o => Sys2Proof.Machine.execMovQRmAtRnRo m n o s
  | .movQAtRmRoRn m o n => Sys2Proof.Machine.execMovQAtRmRoRn m o n s
  | .movQRmAtRnDisp6 m n disp => Sys2Proof.Machine.execMovQRmAtRnDisp6 m n disp s
  | .movQAtRmDisp6Rn m disp n => Sys2Proof.Machine.execMovQAtRmDisp6Rn m disp n s
  | .movWRmAtR0Rn m n => Sys2Proof.Machine.execMovWRmAtR0Rn m n s
  | .movWAtR0RmRn m n => Sys2Proof.Machine.execMovWAtR0RmRn m n s
  | .movWRmAtRn m n => Sys2Proof.Machine.execMovWRmAtRn m n s
  | .movWRmDecRn m n => Sys2Proof.Machine.execMovWRmDecRn m n s
  | .movWRmAtPcR0 m => Sys2Proof.Machine.execMovWRmAtPcR0 m s
  | .movWAtPcR0Rn n => Sys2Proof.Machine.execMovWAtPcR0Rn n s
  | .movWAtRmRn m n => Sys2Proof.Machine.execMovWAtRmRn m n s
  | .movWIncRmRn m n => Sys2Proof.Machine.execMovWIncRmRn m n s
  | .movWAtPcDisp8Rn disp n => Sys2Proof.Machine.execMovWAtPcDisp8Rn disp n s
  | .movWRmAtRnRoDisp4 m n o disp => Sys2Proof.Machine.execMovWRmAtRnRoDisp4 m n o disp s
  | .movWAtRmRoDisp4Rn m o disp n => Sys2Proof.Machine.execMovWAtRmRoDisp4Rn m o disp n s
  | .movWRmAtRnDisp8s m n disp => Sys2Proof.Machine.execMovWRmAtRnDisp8s m n disp s
  | .movWAtRmDisp8sRn m disp n => Sys2Proof.Machine.execMovWAtRmDisp8sRn m disp n s
  | .movWRmAtRnRo m n o => Sys2Proof.Machine.execMovWRmAtRnRo m n o s
  | .movWRmAtRnDisp6 m n disp => Sys2Proof.Machine.execMovWRmAtRnDisp6 m n disp s
  | .movWAtRmRoRn m o n => Sys2Proof.Machine.execMovWAtRmRoRn m o n s
  | .movWAtRmDisp6Rn m disp n => Sys2Proof.Machine.execMovWAtRmDisp6Rn m disp n s
  | .mova disp => Sys2Proof.Machine.execMova disp s
  | .movcaL n => Sys2Proof.Machine.execMovcaL n s
  | .movuBAtRmDisp8sRn m disp n => Sys2Proof.Machine.execMovuBAtRmDisp8sRn m disp n s
  | .movuBAtRmDisp6Rn m disp n => Sys2Proof.Machine.execMovuBAtRmDisp6Rn m disp n s
  | .movuWAtRmDisp8sRn m disp n => Sys2Proof.Machine.execMovuWAtRmDisp8sRn m disp n s
  | .movuWAtRmDisp6Rn m disp n => Sys2Proof.Machine.execMovuWAtRmDisp6Rn m disp n s
  | .movuLAtRmDisp8sRn m disp n => Sys2Proof.Machine.execMovuLAtRmDisp8sRn m disp n s
  | .movuLAtRmDisp6Rn m disp n => Sys2Proof.Machine.execMovuLAtRmDisp6Rn m disp n s
  | .popQRn n => Sys2Proof.Machine.execPopQRn n s
  | .popQRnHi n => Sys2Proof.Machine.execPopQRnHi n s
  | .pushQRm m => Sys2Proof.Machine.execPushQRm m s
  | .pushQRmHi m => Sys2Proof.Machine.execPushQRmHi m s
  | .bfLabel8s label => Sys2Proof.Machine.execBfLabel8s label s
  | .bfLabel16s label => Sys2Proof.Machine.execBfLabel16s label s
  | .bfSLabel8s label => Sys2Proof.Machine.execBfSLabel8s label s
  | .bfSLabel16s label => Sys2Proof.Machine.execBfSLabel16s label s
  | .bra label => Sys2Proof.Machine.execBra label s
  | .braf n => Sys2Proof.Machine.execBraf n s
  | .braNLabel8s label => Sys2Proof.Machine.execBraNLabel8s label s
  | .braNLabel16s label => Sys2Proof.Machine.execBraNLabel16s label s
  | .bsr label => Sys2Proof.Machine.execBsr label s
  | .bsrf n => Sys2Proof.Machine.execBsrf n s
  | .bsrN label => Sys2Proof.Machine.execBsrN label s
  | .btLabel8s label => Sys2Proof.Machine.execBtLabel8s label s
  | .btLabel16s label => Sys2Proof.Machine.execBtLabel16s label s
  | .btSLabel8s label => Sys2Proof.Machine.execBtSLabel8s label s
  | .btSLabel16s label => Sys2Proof.Machine.execBtSLabel16s label s
  | .jmp n => Sys2Proof.Machine.execJmp n s
  | .jsr n => Sys2Proof.Machine.execJsr n s
  | .rts => Sys2Proof.Machine.execRts s
  | .brk => Sys2Proof.Machine.execBrk s
  | .clrmac => Sys2Proof.Machine.execClrmac s
  | .clrs => Sys2Proof.Machine.execClrs s
  | .clrt => Sys2Proof.Machine.execClrt s
  | .ldcRmSr m => Sys2Proof.Machine.execLdcRmSr m s
  | .ldcRmGbr m => Sys2Proof.Machine.execLdcRmGbr m s
  | .ldcRmVbr m => Sys2Proof.Machine.execLdcRmVbr m s
  | .ldcRmSsr m => Sys2Proof.Machine.execLdcRmSsr m s
  | .ldcRmSpc m => Sys2Proof.Machine.execLdcRmSpc m s
  | .ldcRmBank m b => Sys2Proof.Machine.execLdcRmBank m b s
  | .ldcRmDbr m => Sys2Proof.Machine.execLdcRmDbr m s
  | .ldcLIncRmSr m => Sys2Proof.Machine.execLdcLIncRmSr m s
  | .ldcLIncRmGbr m => Sys2Proof.Machine.execLdcLIncRmGbr m s
  | .ldcLIncRmVbr m => Sys2Proof.Machine.execLdcLIncRmVbr m s
  | .ldcLIncRmSsr m => Sys2Proof.Machine.execLdcLIncRmSsr m s
  | .ldcLIncRmSpc m => Sys2Proof.Machine.execLdcLIncRmSpc m s
  | .ldcLIncRmBank m b => Sys2Proof.Machine.execLdcLIncRmBank m b s
  | .ldcLIncRmDbr m => Sys2Proof.Machine.execLdcLIncRmDbr m s
  | .ldsRmMach m => Sys2Proof.Machine.execLdsRmMach m s
  | .ldsRmMacl m => Sys2Proof.Machine.execLdsRmMacl m s
  | .ldsRmPr m => Sys2Proof.Machine.execLdsRmPr m s
  | .ldsRmFpul m => Sys2Proof.Machine.execLdsRmFpul m s
  | .ldsRmFpscr m => Sys2Proof.Machine.execLdsRmFpscr m s
  | .ldsLIncRmMach m => Sys2Proof.Machine.execLdsLIncRmMach m s
  | .ldsLIncRmMacl m => Sys2Proof.Machine.execLdsLIncRmMacl m s
  | .ldsLIncRmPr m => Sys2Proof.Machine.execLdsLIncRmPr m s
  | .ldsLIncRmFpul m => Sys2Proof.Machine.execLdsLIncRmFpul m s
  | .ldsLIncRmFpscr m => Sys2Proof.Machine.execLdsLIncRmFpscr m s
  | .ldtlb => Sys2Proof.Machine.execLdtlb s
  | .nop => Sys2Proof.Machine.execNop s
  | .nopImm imm => Sys2Proof.Machine.execNopImm imm s
  | .rte => Sys2Proof.Machine.execRte s
  | .sets => Sys2Proof.Machine.execSets s
  | .sett => Sys2Proof.Machine.execSett s
  | .sleep => Sys2Proof.Machine.execSleep s
  | .stcSrRn n => Sys2Proof.Machine.execStcSrRn n s
  | .stcGbrRn n => Sys2Proof.Machine.execStcGbrRn n s
  | .stcVbrRn n => Sys2Proof.Machine.execStcVbrRn n s
  | .stcSsrRn n => Sys2Proof.Machine.execStcSsrRn n s
  | .stcSpcRn n => Sys2Proof.Machine.execStcSpcRn n s
  | .stcDbrRn n => Sys2Proof.Machine.execStcDbrRn n s
  | .stcBankRn b n => Sys2Proof.Machine.execStcBankRn b n s
  | .stcLSrDecRn n => Sys2Proof.Machine.execStcLSrDecRn n s
  | .stcLGbrDecRn n => Sys2Proof.Machine.execStcLGbrDecRn n s
  | .stcLVbrDecRn n => Sys2Proof.Machine.execStcLVbrDecRn n s
  | .stcLSsrDecRn n => Sys2Proof.Machine.execStcLSsrDecRn n s
  | .stcLSpcDecRn n => Sys2Proof.Machine.execStcLSpcDecRn n s
  | .stcLDbrDecRn n => Sys2Proof.Machine.execStcLDbrDecRn n s
  | .stcLBankDecRn b n => Sys2Proof.Machine.execStcLBankDecRn b n s
  | .stsMachRn n => Sys2Proof.Machine.execStsMachRn n s
  | .stsMaclRn n => Sys2Proof.Machine.execStsMaclRn n s
  | .stsPrRn n => Sys2Proof.Machine.execStsPrRn n s
  | .stsFpulRn n => Sys2Proof.Machine.execStsFpulRn n s
  | .stsFpscrRn n => Sys2Proof.Machine.execStsFpscrRn n s
  | .stsLMachDecRn n => Sys2Proof.Machine.execStsLMachDecRn n s
  | .stsLMaclDecRn n => Sys2Proof.Machine.execStsLMaclDecRn n s
  | .stsLPrDecRn n => Sys2Proof.Machine.execStsLPrDecRn n s
  | .stsLFpulDecRn n => Sys2Proof.Machine.execStsLFpulDecRn n s
  | .stsLFpscrDecRn n => Sys2Proof.Machine.execStsLFpscrDecRn n s
  | .trapa imm => Sys2Proof.Machine.execTrapa imm s
  | .fabs n => Sys2Proof.Machine.execFabs n s
  | .fadd m n => Sys2Proof.Machine.execFadd m n s
  | .fcmpeq m n => Sys2Proof.Machine.execFcmpeq m n s
  | .fcmpgt m n => Sys2Proof.Machine.execFcmpgt m n s
  | .fcnvds m => Sys2Proof.Machine.execFcnvds m s
  | .fcnvsd n => Sys2Proof.Machine.execFcnvsd n s
  | .fdiv m n => Sys2Proof.Machine.execFdiv m n s
  | .fipr vm vn => Sys2Proof.Machine.execFipr vm vn s
  | .fldi0 n => Sys2Proof.Machine.execFldi0 n s
  | .fldi1 n => Sys2Proof.Machine.execFldi1 n s
  | .flds m => Sys2Proof.Machine.execFlds m s
  | .float n => Sys2Proof.Machine.execFloat n s
  | .fmac m n => Sys2Proof.Machine.execFmac m n s
  | .fmov m n => Sys2Proof.Machine.execFmov m n s
  | .fmovSAtR0RmFrn m n => Sys2Proof.Machine.execFmovSAtR0RmFrn m n s
  | .fmovSFrmAtR0Rn m n => Sys2Proof.Machine.execFmovSFrmAtR0Rn m n s
  | .fmovSAtRmFrn m n => Sys2Proof.Machine.execFmovSAtRmFrn m n s
  | .fmovSIncRmFrn m n => Sys2Proof.Machine.execFmovSIncRmFrn m n s
  | .fmovSFrmAtRn m n => Sys2Proof.Machine.execFmovSFrmAtRn m n s
  | .fmovSFrmDecRn m n => Sys2Proof.Machine.execFmovSFrmDecRn m n s
  | .fmul m n => Sys2Proof.Machine.execFmul m n s
  | .fneg n => Sys2Proof.Machine.execFneg n s
  | .fsqrt n => Sys2Proof.Machine.execFsqrt n s
  | .fsub m n => Sys2Proof.Machine.execFsub m n s
  | .psetmd4 imm => Sys2Proof.Machine.execPsetmd4 imm s
  | .ftrc m => Sys2Proof.Machine.execFtrc m s
  | .ldhf16RmFpul m => Sys2Proof.Machine.execLdhf16RmFpul m s
  | .ldhf16Imm16Fpul imm => Sys2Proof.Machine.execLdhf16Imm16Fpul imm s
  | .ldif16 imm => Sys2Proof.Machine.execLdif16 imm s
  | .sthf16 n => Sys2Proof.Machine.execSthf16 n s

end Sys2Proof.Machine
end

