-- ==== Sys2Proof/Machine/Fetch.lean ====
section
/-!
DEFINITION. Sys2Proof/Machine/Fetch.lean: the instruction fetch (20_memory.md R74), and where a program's instruction is
placed for it.
-/
namespace Sys2Proof.Machine

/-- `check(a, 2, fetch)`: an instruction word lies at an even, backed address (20_memory.md R63, R64, R67). -/
def State.fetchOk (s : State) (a : QWord) : Bool := decide (a.toNat % 2 = 0) && s.launch.mapped .fetch a 2

/-- Fetch one instruction word, then go on with it (20_memory.md R72, R74). -/
def fetchWord (a : QWord) (s : State) (k : Word → Result) : Result :=
  if s.fetchOk a then
    match memRead s.mem (s.launch.locate a) 2 with
    | some w => k (BitVec.ofNat 16 w)
    | none => .fault (.unwritten a)
  else raiseFetch a s

/-- Fetch the bytes of the instruction at PC: one word, and a second one after a prefix (20_memory.md R74). -/
def fetchBytes (s : State) (k : List Byte → Result) : Result :=
  fetchWord s.pc s fun w1 =>
    if isPrefix w1 then fetchWord (s.pc + 2#64) s fun w2 => k (wordBytes w1 ++ wordBytes w2)
    else k (wordBytes w1)

/-- Write bytes at ascending addresses. -/
def placeBytes (l : Launch) (m : List Host.Cell) (a : QWord) : List Byte → List Host.Cell
  | [] => m
  | b :: rest => placeBytes l (memSet m (l.locate a) b) (a + 1#64) rest

end Sys2Proof.Machine
end

