-- ==== Sys2Proof/Machine/Step.lean ====
section
/-!
DEFINITION. Sys2Proof/Machine/Step.lean: one step of the machine: one instruction, or one exception entry
(70_reset_and_hazards.md R479). The section is noncomputable as the decoder is (log 50).
-/
namespace Sys2Proof.Machine

noncomputable section

/-- Run what the decoder answers: an unlisted encoding raises IllegalInstruction, in a delay slot
SlotIllegalInstruction (30_encoding.md R114). -/
def runDecoded (s : State) : DecodeResult → Result
  | .instr i _ => exec i s
  | .rejected _ => raiseIllegal s

/-- One step. A run that BRK or SLEEP has ended takes none (60_exceptions.md R437), and a state with SR.JQ = 0 is refused
(92_eei_decisions.md D2). -/
def step (s : State) : Host.Outcome State Fault Refusal :=
  if s.runEnded then .fault .runEnded
  else if s.sleeping then .fault .sleeping
  else if jqOf s.sr then fetchBytes s fun bytes => runDecoded s (decode bytes)
  else .refused (.modeJqClear s.pc)

/-- The state with the instruction of an opcode table value placed at PC, four bytes from PC on (log 5, log 8). -/
def State.withFetchWord (s : State) (nbits w : Nat) : State :=
  { s with mem := placeBytes s.launch s.mem s.pc (tableBytes nbits w) }

end

end Sys2Proof.Machine
end

