-- ==== Sys2Proof/Laws/Decode.lean ====
section
/-!
SUPPORT. Sys2Proof/Laws/Decode.lean: the fields of an encoding read back what was put there, and decoding the words of an
instruction comes down to its group (30_encoding.md R90 to R101).
-/
namespace Sys2Proof

/-! ## Nibbles of a word -/

@[simp] theorem nib3_word (a b c d : Nibble) : nib3 (word a b c d) = a := by
  simp only [nib3, word, nn4, nn3, nn2]
  apply BitVec.eq_of_getLsbD_eq
  intro i hi
  simp only [BitVec.getLsbD_extractLsb', BitVec.getLsbD_append]
  grind

@[simp] theorem nib2_word (a b c d : Nibble) : nib2 (word a b c d) = b := by
  simp only [nib2, word, nn4, nn3, nn2]
  apply BitVec.eq_of_getLsbD_eq
  intro i hi
  simp only [BitVec.getLsbD_extractLsb', BitVec.getLsbD_append]
  grind

@[simp] theorem nib1_word (a b c d : Nibble) : nib1 (word a b c d) = c := by
  simp only [nib1, word, nn4, nn3, nn2]
  apply BitVec.eq_of_getLsbD_eq
  intro i hi
  simp only [BitVec.getLsbD_extractLsb', BitVec.getLsbD_append]
  grind

@[simp] theorem nib0_word (a b c d : Nibble) : nib0 (word a b c d) = d := by
  simp only [nib0, word, nn4, nn3, nn2]
  apply BitVec.eq_of_getLsbD_eq
  intro i hi
  simp only [BitVec.getLsbD_extractLsb', BitVec.getLsbD_append]
  grind

/-- A word is its four nibbles. -/
theorem word_nibs (w : Word) : word (nib3 w) (nib2 w) (nib1 w) (nib0 w) = w := by
  simp only [nib3, nib2, nib1, nib0, word, nn4, nn3, nn2]
  apply BitVec.eq_of_getLsbD_eq
  intro i hi
  simp only [BitVec.getLsbD_extractLsb', BitVec.getLsbD_append]
  grind

/-- A word is its two bytes. -/
@[simp] theorem joinBytes_extract (w : Word) : joinBytes (w.extractLsb' 0 8) (w.extractLsb' 8 8) = w := by
  unfold joinBytes
  apply BitVec.eq_of_getLsbD_eq
  intro i hi
  simp only [BitVec.getLsbD_extractLsb', BitVec.getLsbD_append]
  grind

/-- The bytes of a joined word. -/
@[simp] theorem wordBytes_joinBytes (l h : Byte) : wordBytes (joinBytes l h) = [l, h] := by
  have e1 : (joinBytes l h).extractLsb' 0 8 = l := by
    unfold joinBytes
    apply BitVec.eq_of_getLsbD_eq
    intro i hi
    simp only [BitVec.getLsbD_extractLsb', BitVec.getLsbD_append]
    grind
  have e2 : (joinBytes l h).extractLsb' 8 8 = h := by
    unfold joinBytes
    apply BitVec.eq_of_getLsbD_eq
    intro i hi
    simp only [BitVec.getLsbD_extractLsb', BitVec.getLsbD_append]
    grind
  simp [wordBytes, e1, e2]

/-! ## Registers and the e, f and q nibbles -/

@[simp] theorem mkReg_split (r : BitVec 5) : mkReg (bit4 r) (low4 r) = r := by revert r; decide
@[simp] theorem bit4_mkReg (b : Bool) (l : Nibble) : bit4 (mkReg b l) = b := by revert b l; decide
@[simp] theorem low4_mkReg (b : Bool) (l : Nibble) : low4 (mkReg b l) = l := by revert b l; decide
@[simp] theorem eQ_mkE (q n m o : Bool) : eQ (mkE q n m o) = q := by revert q n m o; decide
@[simp] theorem eN_mkE (q n m o : Bool) : eN (mkE q n m o) = n := by revert q n m o; decide
@[simp] theorem eM_mkE (q n m o : Bool) : eM (mkE q n m o) = m := by revert q n m o; decide
@[simp] theorem eO_mkE (q n m o : Bool) : eO (mkE q n m o) = o := by revert q n m o; decide
@[simp] theorem mkE_split (y : Nibble) : mkE (eQ y) (eN y) (eM y) (eO y) = y := by revert y; decide
@[simp] theorem fN_mkF (n m : Bool) (i : BitVec 2) : fN (mkF n m i) = n := by revert n m i; decide
@[simp] theorem fM_mkF (n m : Bool) (i : BitVec 2) : fM (mkF n m i) = m := by revert n m i; decide
@[simp] theorem fI_mkF (n m : Bool) (i : BitVec 2) : fI (mkF n m i) = i := by revert n m i; decide
@[simp] theorem mkF_split (y : Nibble) : mkF (fN y) (fM y) (fI y) = y := by revert y; decide
@[simp] theorem eQ_mkQ (q n : Bool) (i : BitVec 2) : eQ (mkQ q n i) = q := by revert q n i; decide
@[simp] theorem eN_mkQ (q n : Bool) (i : BitVec 2) : eN (mkQ q n i) = n := by revert q n i; decide
@[simp] theorem fI_mkQ (q n : Bool) (i : BitVec 2) : fI (mkQ q n i) = i := by revert q n i; decide
@[simp] theorem mkQ_split (y : Nibble) : mkQ (eQ y) (eN y) (fI y) = y := by revert y; decide
@[simp] theorem isBank_mkBank (b : BitVec 3) : isBank (mkBank b) = true := by revert b; decide
@[simp] theorem bankOf_mkBank (b : BitVec 3) : bankOf (mkBank b) = b := by revert b; decide
theorem mkBank_bankOf (c : Nibble) (h : isBank c = true) : mkBank (bankOf c) = c := by revert c; decide
@[simp] theorem vecN_mkVec (a b : BitVec 2) : vecN (mkVec a b) = a := by revert a b; decide
@[simp] theorem vecM_mkVec (a b : BitVec 2) : vecM (mkVec a b) = b := by revert a b; decide
@[simp] theorem mkVec_split (y : Nibble) : mkVec (vecN y) (vecM y) = y := by revert y; decide

/-! ## Immediates -/

@[simp] theorem nn2_nibs (v : BitVec 8) : nn2 (nib1 v) (nib0 v) = v := by
  simp only [nib1, nib0, nn2]
  apply BitVec.eq_of_getLsbD_eq
  intro i hi
  simp only [BitVec.getLsbD_extractLsb', BitVec.getLsbD_append]
  grind

@[simp] theorem nn3_nibs (v : BitVec 12) : nn3 (nib2 v) (nib1 v) (nib0 v) = v := by
  simp only [nib2, nib1, nib0, nn3, nn2]
  apply BitVec.eq_of_getLsbD_eq
  intro i hi
  simp only [BitVec.getLsbD_extractLsb', BitVec.getLsbD_append]
  grind

@[simp] theorem nn4_nibs (v : BitVec 16) : nn4 (nib3 v) (nib2 v) (nib1 v) (nib0 v) = v := word_nibs v

@[simp] theorem f6_mkF (n m : Bool) (v : BitVec 6) : f6 (mkF n m (imm6Hi v)) (nib0 v) = v := by
  simp only [f6, fI_mkF, imm6Hi, nib0]
  apply BitVec.eq_of_getLsbD_eq
  intro i hi
  simp only [BitVec.getLsbD_extractLsb', BitVec.getLsbD_append]
  grind

@[simp] theorem f10_mkQ (q n : Bool) (v : BitVec 10) : f10 (mkQ q n (imm10Hi v)) (nib1 v) (nib0 v) = v := by
  simp only [f10, fI_mkQ, imm10Hi, nib1, nib0, nn2]
  apply BitVec.eq_of_getLsbD_eq
  intro i hi
  simp only [BitVec.getLsbD_extractLsb', BitVec.getLsbD_append]
  grind

@[simp] theorem nib1_nn2 (a b : Nibble) : nib1 (nn2 a b) = a := by
  simp only [nib1, nn2]
  apply BitVec.eq_of_getLsbD_eq
  intro i hi
  simp only [BitVec.getLsbD_extractLsb', BitVec.getLsbD_append]
  grind
@[simp] theorem nib0_nn2 (a b : Nibble) : nib0 (nn2 a b) = b := by
  simp only [nib0, nn2]
  apply BitVec.eq_of_getLsbD_eq
  intro i hi
  simp only [BitVec.getLsbD_extractLsb', BitVec.getLsbD_append]
  grind
@[simp] theorem nib2_nn3 (a b c : Nibble) : nib2 (nn3 a b c) = a := by
  simp only [nib2, nn3, nn2]
  apply BitVec.eq_of_getLsbD_eq
  intro i hi
  simp only [BitVec.getLsbD_extractLsb', BitVec.getLsbD_append]
  grind
@[simp] theorem nib1_nn3 (a b c : Nibble) : nib1 (nn3 a b c) = b := by
  simp only [nib1, nn3, nn2]
  apply BitVec.eq_of_getLsbD_eq
  intro i hi
  simp only [BitVec.getLsbD_extractLsb', BitVec.getLsbD_append]
  grind
@[simp] theorem nib0_nn3 (a b c : Nibble) : nib0 (nn3 a b c) = c := by
  simp only [nib0, nn3, nn2]
  apply BitVec.eq_of_getLsbD_eq
  intro i hi
  simp only [BitVec.getLsbD_extractLsb', BitVec.getLsbD_append]
  grind
@[simp] theorem nib3_nn4 (a b c d : Nibble) : nib3 (nn4 a b c d) = a := nib3_word a b c d
@[simp] theorem nib2_nn4 (a b c d : Nibble) : nib2 (nn4 a b c d) = b := nib2_word a b c d
@[simp] theorem nib1_nn4 (a b c d : Nibble) : nib1 (nn4 a b c d) = c := nib1_word a b c d
@[simp] theorem nib0_nn4 (a b c d : Nibble) : nib0 (nn4 a b c d) = d := nib0_word a b c d
@[simp] theorem imm6Hi_f6 (y z : Nibble) : imm6Hi (f6 y z) = fI y := by
  simp only [imm6Hi, f6]
  apply BitVec.eq_of_getLsbD_eq
  intro i hi
  simp only [BitVec.getLsbD_extractLsb', BitVec.getLsbD_append]
  grind
@[simp] theorem nib0_f6 (y z : Nibble) : nib0 (f6 y z) = z := by
  simp only [nib0, f6]
  apply BitVec.eq_of_getLsbD_eq
  intro i hi
  simp only [BitVec.getLsbD_extractLsb', BitVec.getLsbD_append]
  grind
@[simp] theorem imm10Hi_f10 (y z c : Nibble) : imm10Hi (f10 y z c) = fI y := by
  simp only [imm10Hi, f10, nn2]
  apply BitVec.eq_of_getLsbD_eq
  intro i hi
  simp only [BitVec.getLsbD_extractLsb', BitVec.getLsbD_append]
  grind
@[simp] theorem nib1_f10 (y z c : Nibble) : nib1 (f10 y z c) = z := by
  simp only [nib1, f10, nn2]
  apply BitVec.eq_of_getLsbD_eq
  intro i hi
  simp only [BitVec.getLsbD_extractLsb', BitVec.getLsbD_append]
  grind
@[simp] theorem nib0_f10 (y z c : Nibble) : nib0 (f10 y z c) = c := by
  simp only [nib0, f10, nn2]
  apply BitVec.eq_of_getLsbD_eq
  intro i hi
  simp only [BitVec.getLsbD_extractLsb', BitVec.getLsbD_append]
  grind

/-! ## Decoding words -/

/-- Decoding a 16-bit word that is no prefix. -/
theorem decode_word {a b c d : Nibble} {i : Instr} (rest : List Byte)
    (hp : isPrefix (word a b c d) = false) (h : decode16 a b c d = some i) :
    decode (wordsBytes [word a b c d] ++ rest) = .instr i rest := by
  simp [wordsBytes, wordBytes, decode, hp, decodeWord, h]

/-- Decoding an `8E` prefix and its second word. -/
theorem decode_pair8E {y z a b c d : Nibble} {i : Instr} (rest : List Byte)
    (h : decode8E y z a b c d = some i) :
    decode (wordsBytes [word 0x8#4 0xE#4 y z, word a b c d] ++ rest) = .instr i rest := by
  simp [wordsBytes, wordBytes, decode, isPrefix, decodePair, h]

/-- Decoding a `CE` prefix and its second word. -/
theorem decode_pairCE {y z a b c d : Nibble} {i : Instr} (rest : List Byte)
    (h : decodeCE y z a b c d = some i) :
    decode (wordsBytes [word 0xC#4 0xE#4 y z, word a b c d] ++ rest) = .instr i rest := by
  simp [wordsBytes, wordBytes, decode, isPrefix, decodePair, h]

/-! ## What a group of the decoder can answer -/

/-- A property of every answer of a test in the decoder is one of both branches. -/
theorem decode_ite {c : Prop} [Decidable c] {a b : Option Instr} {P : Instr → Prop}
    (ha : c → ∀ i, a = some i → P i) (hb : ¬c → ∀ i, b = some i → P i) :
    ∀ i, (if c then a else b) = some i → P i := by
  intro i h
  by_cases hc : c
  · rw [if_pos hc] at h; exact ha hc i h
  · rw [if_neg hc] at h; exact hb hc i h

/-- A refused word has every property. -/
theorem decode_none {P : Instr → Prop} : ∀ i, (none : Option Instr) = some i → P i := nofun

/-- A decoded instruction has a property if that instruction does. -/
theorem decode_some {P : Instr → Prop} {j : Instr} (h : P j) : ∀ i, some j = some i → P i :=
  fun _ e => Option.some.inj e ▸ h

end Sys2Proof
end

