-- ==== Sys2Proof/Laws/PerInstr.lean ====
section
/-!
SUPPORT. Sys2Proof/Laws/PerInstr.lean: for every constructor of Instr, that decoding the bytes of its encoding gives the
instruction back, with every operand at every value the encoding admits, and leaves what follows alone.
-/
namespace Sys2Proof.Laws

/-- The decoder reads the encoding of a well-formed instruction back, whatever bytes follow. -/
def EncodingRoundTrip.Statement (i : Instr) : Prop :=
  i.wellFormed = true → ∀ rest : List Byte, decode (encodeBytes i ++ rest) = .instr i rest

theorem EncodingRoundTrip.addRmRn (m : BitVec 4) (n : BitVec 4) : EncodingRoundTrip.Statement (.addRmRn m n) := fun _ rest =>
  decode_word rest (by simp [isPrefix]) (by simp [decode16, decode16Group3])

theorem EncodingRoundTrip.addRmRnCe (q : Bool) (m : BitVec 5) (n : BitVec 5) : EncodingRoundTrip.Statement (.addRmRnCe q m n) := fun _ rest =>
  decode_pairCE rest (by simp [decodeCE, decodeCEGroup3, decodeCEGroup3LowF])

theorem EncodingRoundTrip.addImm8sRn (imm : BitVec 8) (n : BitVec 4) : EncodingRoundTrip.Statement (.addImm8sRn imm n) := fun _ rest =>
  decode_word rest (by simp [isPrefix]) (by simp [decode16, decode16Group7])

theorem EncodingRoundTrip.addImm16sRn (imm : BitVec 16) (n : BitVec 4) : EncodingRoundTrip.Statement (.addImm16sRn imm n) := fun _ rest =>
  decode_pair8E rest (by simp [decode8E, decode8EGroup7])

theorem EncodingRoundTrip.addImm16sRnHi (imm : BitVec 16) (n : BitVec 4) : EncodingRoundTrip.Statement (.addImm16sRnHi imm n) := fun _ rest =>
  decode_pairCE rest (by simp [decodeCE, decodeCEGroup7])

theorem EncodingRoundTrip.addRmImm8Rn (m : BitVec 4) (imm : BitVec 8) (n : BitVec 4) : EncodingRoundTrip.Statement (.addRmImm8Rn m imm n) := fun _ rest =>
  decode_pair8E rest (by simp [decode8E, decode8EGroup3])

theorem EncodingRoundTrip.addRmImm6Rn (m : BitVec 5) (imm : BitVec 6) (n : BitVec 5) : EncodingRoundTrip.Statement (.addRmImm6Rn m imm n) := fun _ rest =>
  decode_pairCE rest (by simp [decodeCE, decodeCEGroup3])

theorem EncodingRoundTrip.addRmRoRn (q : Bool) (m : BitVec 5) (o : BitVec 5) (n : BitVec 5) : EncodingRoundTrip.Statement (.addRmRoRn q m o n) := fun _ rest =>
  decode_pairCE rest (by simp [decodeCE, decodeCEGroupA])

theorem EncodingRoundTrip.addcRmRn (m : BitVec 4) (n : BitVec 4) : EncodingRoundTrip.Statement (.addcRmRn m n) := fun _ rest =>
  decode_word rest (by simp [isPrefix]) (by simp [decode16, decode16Group3])

theorem EncodingRoundTrip.addcRmRnCe (q : Bool) (m : BitVec 5) (n : BitVec 5) : EncodingRoundTrip.Statement (.addcRmRnCe q m n) := fun _ rest =>
  decode_pairCE rest (by simp [decodeCE, decodeCEGroup3, decodeCEGroup3LowF])

theorem EncodingRoundTrip.addv (q : Bool) (m : BitVec 5) (n : BitVec 5) : EncodingRoundTrip.Statement (.addv q m n) := fun _ rest =>
  decode_pairCE rest (by simp [decodeCE, decodeCEGroup3, decodeCEGroup3LowF])

theorem EncodingRoundTrip.cmpEqRmRn (m : BitVec 4) (n : BitVec 4) : EncodingRoundTrip.Statement (.cmpEqRmRn m n) := fun _ rest =>
  decode_word rest (by simp [isPrefix]) (by simp [decode16, decode16Group3])

theorem EncodingRoundTrip.cmpEqRmRnCe (q : Bool) (m : BitVec 5) (n : BitVec 5) : EncodingRoundTrip.Statement (.cmpEqRmRnCe q m n) := fun _ rest =>
  decode_pairCE rest (by simp [decodeCE, decodeCEGroup3, decodeCEGroup3LowF])

theorem EncodingRoundTrip.cmpEqImm8sR0 (imm : BitVec 8) : EncodingRoundTrip.Statement (.cmpEqImm8sR0 imm) := fun _ rest =>
  decode_word rest (by simp [isPrefix]) (by simp [decode16, decode16Group8])

theorem EncodingRoundTrip.cmpEqImm12sRn (imm : BitVec 12) (n : BitVec 4) : EncodingRoundTrip.Statement (.cmpEqImm12sRn imm n) := fun _ rest =>
  decode_pair8E rest (by simp [decode8E, decode8EGroup3])

theorem EncodingRoundTrip.cmpEqImm10sRn (q : Bool) (imm : BitVec 10) (n : BitVec 5) : EncodingRoundTrip.Statement (.cmpEqImm10sRn q imm n) := fun _ rest =>
  decode_pairCE rest (by simp [decodeCE, decodeCEGroup3])

theorem EncodingRoundTrip.cmpGeImm12sRn (imm : BitVec 12) (n : BitVec 4) : EncodingRoundTrip.Statement (.cmpGeImm12sRn imm n) := fun _ rest =>
  decode_pair8E rest (by simp [decode8E, decode8EGroup3])

theorem EncodingRoundTrip.cmpGeImm10sRn (q : Bool) (imm : BitVec 10) (n : BitVec 5) : EncodingRoundTrip.Statement (.cmpGeImm10sRn q imm n) := fun _ rest =>
  decode_pairCE rest (by simp [decodeCE, decodeCEGroup3])

theorem EncodingRoundTrip.cmpGeRmRn (q : Bool) (m : BitVec 5) (n : BitVec 5) : EncodingRoundTrip.Statement (.cmpGeRmRn q m n) := fun _ rest =>
  decode_pairCE rest (by simp [decodeCE, decodeCEGroup3, decodeCEGroup3LowF])

theorem EncodingRoundTrip.cmpGtRmRn (m : BitVec 4) (n : BitVec 4) : EncodingRoundTrip.Statement (.cmpGtRmRn m n) := fun _ rest =>
  decode_word rest (by simp [isPrefix]) (by simp [decode16, decode16Group3])

theorem EncodingRoundTrip.cmpGtImm12sRn (imm : BitVec 12) (n : BitVec 4) : EncodingRoundTrip.Statement (.cmpGtImm12sRn imm n) := fun _ rest =>
  decode_pair8E rest (by simp [decode8E, decode8EGroup3])

theorem EncodingRoundTrip.cmpGtImm10sRn (q : Bool) (imm : BitVec 10) (n : BitVec 5) : EncodingRoundTrip.Statement (.cmpGtImm10sRn q imm n) := fun _ rest =>
  decode_pairCE rest (by simp [decodeCE, decodeCEGroup3])

theorem EncodingRoundTrip.cmpGtRmRnCe (q : Bool) (m : BitVec 5) (n : BitVec 5) : EncodingRoundTrip.Statement (.cmpGtRmRnCe q m n) := fun _ rest =>
  decode_pairCE rest (by simp [decodeCE, decodeCEGroup3, decodeCEGroup3LowF])

theorem EncodingRoundTrip.cmpHiRmRn (m : BitVec 4) (n : BitVec 4) : EncodingRoundTrip.Statement (.cmpHiRmRn m n) := fun _ rest =>
  decode_word rest (by simp [isPrefix]) (by simp [decode16, decode16Group3])

theorem EncodingRoundTrip.cmpHiImm12sRn (imm : BitVec 12) (n : BitVec 4) : EncodingRoundTrip.Statement (.cmpHiImm12sRn imm n) := fun _ rest =>
  decode_pair8E rest (by simp [decode8E, decode8EGroup3])

theorem EncodingRoundTrip.cmpHiRmRnCe (q : Bool) (m : BitVec 5) (n : BitVec 5) : EncodingRoundTrip.Statement (.cmpHiRmRnCe q m n) := fun _ rest =>
  decode_pairCE rest (by simp [decodeCE, decodeCEGroup3, decodeCEGroup3LowF])

theorem EncodingRoundTrip.cmpHiImm10sRn (q : Bool) (imm : BitVec 10) (n : BitVec 5) : EncodingRoundTrip.Statement (.cmpHiImm10sRn q imm n) := fun _ rest =>
  decode_pairCE rest (by simp [decodeCE, decodeCEGroup3])

theorem EncodingRoundTrip.cmpHsImm12sRn (imm : BitVec 12) (n : BitVec 4) : EncodingRoundTrip.Statement (.cmpHsImm12sRn imm n) := fun _ rest =>
  decode_pair8E rest (by simp [decode8E, decode8EGroup3])

theorem EncodingRoundTrip.cmpHsRmRn (q : Bool) (m : BitVec 5) (n : BitVec 5) : EncodingRoundTrip.Statement (.cmpHsRmRn q m n) := fun _ rest =>
  decode_pairCE rest (by simp [decodeCE, decodeCEGroup3, decodeCEGroup3LowF])

theorem EncodingRoundTrip.cmpHsImm10sRn (q : Bool) (imm : BitVec 10) (n : BitVec 5) : EncodingRoundTrip.Statement (.cmpHsImm10sRn q imm n) := fun _ rest =>
  decode_pairCE rest (by simp [decodeCE, decodeCEGroup3])

theorem EncodingRoundTrip.cmpPl (n : BitVec 4) : EncodingRoundTrip.Statement (.cmpPl n) := fun _ rest =>
  decode_word rest (by simp [isPrefix]) (by simp [decode16, decode16Group4, decode16Group4Low5])

theorem EncodingRoundTrip.cmpPz (n : BitVec 4) : EncodingRoundTrip.Statement (.cmpPz n) := fun _ rest =>
  decode_word rest (by simp [isPrefix]) (by simp [decode16, decode16Group4, decode16Group4Low1])

theorem EncodingRoundTrip.div0s : EncodingRoundTrip.Statement .div0s := fun _ rest =>
  decode_word rest (by simp [isPrefix]) (by simp [decode16, decode16Group0, decode16Group0Low8])

theorem EncodingRoundTrip.div0u : EncodingRoundTrip.Statement .div0u := fun _ rest =>
  decode_word rest (by simp [isPrefix]) (by simp [decode16, decode16Group0, decode16Group0Low9])

theorem EncodingRoundTrip.div1 : EncodingRoundTrip.Statement .div1 := fun _ rest =>
  decode_word rest (by simp [isPrefix]) (by simp [decode16, decode16Group0, decode16Group0Low8])

theorem EncodingRoundTrip.dmulsL (m : BitVec 4) (n : BitVec 4) : EncodingRoundTrip.Statement (.dmulsL m n) := fun _ rest =>
  decode_word rest (by simp [isPrefix]) (by simp [decode16, decode16Group3])

theorem EncodingRoundTrip.dmuluL (m : BitVec 4) (n : BitVec 4) : EncodingRoundTrip.Statement (.dmuluL m n) := fun _ rest =>
  decode_word rest (by simp [isPrefix]) (by simp [decode16, decode16Group3])

theorem EncodingRoundTrip.dt (n : BitVec 4) : EncodingRoundTrip.Statement (.dt n) := fun _ rest =>
  decode_word rest (by simp [isPrefix]) (by simp [decode16, decode16Group4, decode16Group4Low0])

theorem EncodingRoundTrip.ldsh16zImm16Rn (imm : BitVec 16) (n : BitVec 4) : EncodingRoundTrip.Statement (.ldsh16zImm16Rn imm n) := fun _ rest =>
  decode_pair8E rest (by simp [decode8E, decode8EGroup9])

theorem EncodingRoundTrip.ldsh16zImm16RnHi (imm : BitVec 16) (n : BitVec 4) : EncodingRoundTrip.Statement (.ldsh16zImm16RnHi imm n) := fun _ rest =>
  decode_pairCE rest (by simp [decodeCE, decodeCEGroup9])

theorem EncodingRoundTrip.mulRmImm8Rn (m : BitVec 4) (imm : BitVec 8) (n : BitVec 4) : EncodingRoundTrip.Statement (.mulRmImm8Rn m imm n) := fun _ rest =>
  decode_pair8E rest (by simp [decode8E, decode8EGroup2])

theorem EncodingRoundTrip.mulRmNegImm8Rn (m : BitVec 4) (imm : BitVec 8) (n : BitVec 4) : EncodingRoundTrip.Statement (.mulRmNegImm8Rn m imm n) := fun _ rest =>
  decode_pair8E rest (by simp [decode8E, decode8EGroup2])

theorem EncodingRoundTrip.mulRmImm6Rn (m : BitVec 5) (imm : BitVec 6) (n : BitVec 5) : EncodingRoundTrip.Statement (.mulRmImm6Rn m imm n) := fun _ rest =>
  decode_pairCE rest (by simp [decodeCE, decodeCEGroup2])

theorem EncodingRoundTrip.mulRmNegImm6Rn (m : BitVec 5) (imm : BitVec 6) (n : BitVec 5) : EncodingRoundTrip.Statement (.mulRmNegImm6Rn m imm n) := fun _ rest =>
  decode_pairCE rest (by simp [decodeCE, decodeCEGroup2])

theorem EncodingRoundTrip.mulRmRoRn (q : Bool) (m : BitVec 5) (o : BitVec 5) (n : BitVec 5) : EncodingRoundTrip.Statement (.mulRmRoRn q m o n) := fun _ rest =>
  decode_pairCE rest (by simp [decodeCE, decodeCEGroupA])

theorem EncodingRoundTrip.mulLRmRn (m : BitVec 4) (n : BitVec 4) : EncodingRoundTrip.Statement (.mulLRmRn m n) := fun _ rest =>
  decode_word rest (by simp [isPrefix]) (by simp [decode16, decode16Group2])

theorem EncodingRoundTrip.mulLRmRnCe (m : BitVec 5) (n : BitVec 5) : EncodingRoundTrip.Statement (.mulLRmRnCe m n) := fun _ rest =>
  decode_pairCE rest (by simp [decodeCE, decodeCEGroup3, decodeCEGroup3LowF])

theorem EncodingRoundTrip.mulsW (m : BitVec 4) (n : BitVec 4) : EncodingRoundTrip.Statement (.mulsW m n) := fun _ rest =>
  decode_word rest (by simp [isPrefix]) (by simp [decode16, decode16Group2])

theorem EncodingRoundTrip.muluW (m : BitVec 4) (n : BitVec 4) : EncodingRoundTrip.Statement (.muluW m n) := fun _ rest =>
  decode_word rest (by simp [isPrefix]) (by simp [decode16, decode16Group2])

theorem EncodingRoundTrip.negRmRn (m : BitVec 4) (n : BitVec 4) : EncodingRoundTrip.Statement (.negRmRn m n) := fun _ rest =>
  decode_word rest (by simp [isPrefix]) (by simp [decode16, decode16Group6])

theorem EncodingRoundTrip.negRmRnCe (q : Bool) (m : BitVec 5) (n : BitVec 5) : EncodingRoundTrip.Statement (.negRmRnCe q m n) := fun _ rest =>
  decode_pairCE rest (by simp [decodeCE, decodeCEGroup6, decodeCEGroup6LowF])

theorem EncodingRoundTrip.negcRmRn (m : BitVec 4) (n : BitVec 4) : EncodingRoundTrip.Statement (.negcRmRn m n) := fun _ rest =>
  decode_word rest (by simp [isPrefix]) (by simp [decode16, decode16Group6])

theorem EncodingRoundTrip.negcRmRnCe (q : Bool) (m : BitVec 5) (n : BitVec 5) : EncodingRoundTrip.Statement (.negcRmRnCe q m n) := fun _ rest =>
  decode_pairCE rest (by simp [decodeCE, decodeCEGroup6, decodeCEGroup6LowF])

theorem EncodingRoundTrip.subRmRn (m : BitVec 4) (n : BitVec 4) : EncodingRoundTrip.Statement (.subRmRn m n) := fun _ rest =>
  decode_word rest (by simp [isPrefix]) (by simp [decode16, decode16Group3])

theorem EncodingRoundTrip.subRmRnCe (q : Bool) (m : BitVec 5) (n : BitVec 5) : EncodingRoundTrip.Statement (.subRmRnCe q m n) := fun _ rest =>
  decode_pairCE rest (by simp [decodeCE, decodeCEGroup3, decodeCEGroup3LowF])

theorem EncodingRoundTrip.subRmImm8Rn (m : BitVec 4) (imm : BitVec 8) (n : BitVec 4) : EncodingRoundTrip.Statement (.subRmImm8Rn m imm n) := fun _ rest =>
  decode_pair8E rest (by simp [decode8E, decode8EGroup3])

theorem EncodingRoundTrip.subRmImm6Rn (m : BitVec 5) (imm : BitVec 6) (n : BitVec 5) : EncodingRoundTrip.Statement (.subRmImm6Rn m imm n) := fun _ rest =>
  decode_pairCE rest (by simp [decodeCE, decodeCEGroup3])

theorem EncodingRoundTrip.subRmRoRn (q : Bool) (m : BitVec 5) (o : BitVec 5) (n : BitVec 5) : EncodingRoundTrip.Statement (.subRmRoRn q m o n) := fun _ rest =>
  decode_pairCE rest (by simp [decodeCE, decodeCEGroupA])

theorem EncodingRoundTrip.subc (m : BitVec 4) (n : BitVec 4) : EncodingRoundTrip.Statement (.subc m n) := fun _ rest =>
  decode_word rest (by simp [isPrefix]) (by simp [decode16, decode16Group3])

theorem EncodingRoundTrip.subv (q : Bool) (m : BitVec 5) (n : BitVec 5) : EncodingRoundTrip.Statement (.subv q m n) := fun _ rest =>
  decode_pairCE rest (by simp [decodeCE, decodeCEGroup3, decodeCEGroup3LowF])

theorem EncodingRoundTrip.andRmRn (m : BitVec 4) (n : BitVec 4) : EncodingRoundTrip.Statement (.andRmRn m n) := fun _ rest =>
  decode_word rest (by simp [isPrefix]) (by simp [decode16, decode16Group2])

theorem EncodingRoundTrip.andImm8R0 (imm : BitVec 8) : EncodingRoundTrip.Statement (.andImm8R0 imm) := fun _ rest =>
  decode_word rest (by simp [isPrefix]) (by simp [decode16, decode16GroupC])

theorem EncodingRoundTrip.andImm12sRn (imm : BitVec 12) (n : BitVec 4) : EncodingRoundTrip.Statement (.andImm12sRn imm n) := fun _ rest =>
  decode_pair8E rest (by simp [decode8E, decode8EGroupC])

theorem EncodingRoundTrip.andRmImm8Rn (m : BitVec 4) (imm : BitVec 8) (n : BitVec 4) : EncodingRoundTrip.Statement (.andRmImm8Rn m imm n) := fun _ rest =>
  decode_pair8E rest (by simp [decode8E, decode8EGroup2])

theorem EncodingRoundTrip.andRmImm6Rn (m : BitVec 5) (imm : BitVec 6) (n : BitVec 5) : EncodingRoundTrip.Statement (.andRmImm6Rn m imm n) := fun _ rest =>
  decode_pairCE rest (by simp [decodeCE, decodeCEGroup2])

theorem EncodingRoundTrip.andRmNegImm8Rn (m : BitVec 4) (imm : BitVec 8) (n : BitVec 4) : EncodingRoundTrip.Statement (.andRmNegImm8Rn m imm n) := fun _ rest =>
  decode_pair8E rest (by simp [decode8E, decode8EGroup3])

theorem EncodingRoundTrip.andRmNegImm6Rn (m : BitVec 5) (imm : BitVec 6) (n : BitVec 5) : EncodingRoundTrip.Statement (.andRmNegImm6Rn m imm n) := fun _ rest =>
  decode_pairCE rest (by simp [decodeCE, decodeCEGroup3])

theorem EncodingRoundTrip.andRmRoRn (q : Bool) (m : BitVec 5) (o : BitVec 5) (n : BitVec 5) : EncodingRoundTrip.Statement (.andRmRoRn q m o n) := fun _ rest =>
  decode_pairCE rest (by simp [decodeCE, decodeCEGroupA])

theorem EncodingRoundTrip.cselt (m : BitVec 5) (o : BitVec 5) (n : BitVec 5) : EncodingRoundTrip.Statement (.cselt m o n) := fun _ rest =>
  decode_pairCE rest (by simp [decodeCE, decodeCEGroupA])

theorem EncodingRoundTrip.extsBRn (n : BitVec 4) : EncodingRoundTrip.Statement (.extsBRn n) := fun _ rest =>
  decode_word rest (by simp [isPrefix]) (by simp [decode16, decode16Group4, decode16Group4Low0])

theorem EncodingRoundTrip.extsBRmRn (m : BitVec 4) (n : BitVec 4) : EncodingRoundTrip.Statement (.extsBRmRn m n) := fun _ rest =>
  decode_word rest (by simp [isPrefix]) (by simp [decode16, decode16Group6])

theorem EncodingRoundTrip.extsBRmRnCe (m : BitVec 5) (n : BitVec 5) : EncodingRoundTrip.Statement (.extsBRmRnCe m n) := fun _ rest =>
  decode_pairCE rest (by simp [decodeCE, decodeCEGroup6, decodeCEGroup6LowF])

theorem EncodingRoundTrip.extsL (n : BitVec 4) : EncodingRoundTrip.Statement (.extsL n) := fun _ rest =>
  decode_word rest (by simp [isPrefix]) (by simp [decode16, decode16Group4, decode16Group4Low4])

theorem EncodingRoundTrip.extsWRn (n : BitVec 4) : EncodingRoundTrip.Statement (.extsWRn n) := fun _ rest =>
  decode_word rest (by simp [isPrefix]) (by simp [decode16, decode16Group4, decode16Group4Low1])

theorem EncodingRoundTrip.extsWRmRn (m : BitVec 4) (n : BitVec 4) : EncodingRoundTrip.Statement (.extsWRmRn m n) := fun _ rest =>
  decode_word rest (by simp [isPrefix]) (by simp [decode16, decode16Group6])

theorem EncodingRoundTrip.extsWRmRnCe (m : BitVec 5) (n : BitVec 5) : EncodingRoundTrip.Statement (.extsWRmRnCe m n) := fun _ rest =>
  decode_pairCE rest (by simp [decodeCE, decodeCEGroup6, decodeCEGroup6LowF])

theorem EncodingRoundTrip.extuBRn (n : BitVec 4) : EncodingRoundTrip.Statement (.extuBRn n) := fun _ rest =>
  decode_word rest (by simp [isPrefix]) (by simp [decode16, decode16Group4, decode16Group4Low0])

theorem EncodingRoundTrip.extuBRmRn (m : BitVec 4) (n : BitVec 4) : EncodingRoundTrip.Statement (.extuBRmRn m n) := fun _ rest =>
  decode_word rest (by simp [isPrefix]) (by simp [decode16, decode16Group6])

theorem EncodingRoundTrip.extuBRmRnCe (m : BitVec 5) (n : BitVec 5) : EncodingRoundTrip.Statement (.extuBRmRnCe m n) := fun _ rest =>
  decode_pairCE rest (by simp [decodeCE, decodeCEGroup6, decodeCEGroup6LowF])

theorem EncodingRoundTrip.extuLRn (n : BitVec 4) : EncodingRoundTrip.Statement (.extuLRn n) := fun _ rest =>
  decode_word rest (by simp [isPrefix]) (by simp [decode16, decode16Group4, decode16Group4Low4])

theorem EncodingRoundTrip.extuLRmRn (m : BitVec 5) (n : BitVec 5) : EncodingRoundTrip.Statement (.extuLRmRn m n) := fun _ rest =>
  decode_pairCE rest (by simp [decodeCE, decodeCEGroup6, decodeCEGroup6LowF])

theorem EncodingRoundTrip.extuWRn (n : BitVec 4) : EncodingRoundTrip.Statement (.extuWRn n) := fun _ rest =>
  decode_word rest (by simp [isPrefix]) (by simp [decode16, decode16Group4, decode16Group4Low1])

theorem EncodingRoundTrip.extuWRmRn (m : BitVec 4) (n : BitVec 4) : EncodingRoundTrip.Statement (.extuWRmRn m n) := fun _ rest =>
  decode_word rest (by simp [isPrefix]) (by simp [decode16, decode16Group6])

theorem EncodingRoundTrip.extuWRmRnCe (m : BitVec 5) (n : BitVec 5) : EncodingRoundTrip.Statement (.extuWRmRnCe m n) := fun _ rest =>
  decode_pairCE rest (by simp [decodeCE, decodeCEGroup6, decodeCEGroup6LowF])

theorem EncodingRoundTrip.movRmRn (m : BitVec 4) (n : BitVec 4) : EncodingRoundTrip.Statement (.movRmRn m n) := fun _ rest =>
  decode_word rest (by simp [isPrefix]) (by simp [decode16, decode16Group4])

theorem EncodingRoundTrip.movRmRnCe (m : BitVec 5) (n : BitVec 5) : EncodingRoundTrip.Statement (.movRmRnCe m n) := fun _ rest =>
  decode_pairCE rest (by simp [decodeCE, decodeCEGroup4])

theorem EncodingRoundTrip.movImm8sRn (imm : BitVec 8) (n : BitVec 4) : EncodingRoundTrip.Statement (.movImm8sRn imm n) := fun _ rest =>
  decode_word rest (by simp [isPrefix]) (by simp [decode16, decode16GroupE])

theorem EncodingRoundTrip.movImm16sRn (imm : BitVec 16) (n : BitVec 4) : EncodingRoundTrip.Statement (.movImm16sRn imm n) := fun _ rest =>
  decode_pair8E rest (by simp [decode8E, decode8EGroupE])

theorem EncodingRoundTrip.movImm16sRnHi (imm : BitVec 16) (n : BitVec 4) : EncodingRoundTrip.Statement (.movImm16sRnHi imm n) := fun _ rest =>
  decode_pairCE rest (by simp [decodeCE, decodeCEGroupE])

theorem EncodingRoundTrip.movt (n : BitVec 4) : EncodingRoundTrip.Statement (.movt n) := fun _ rest =>
  decode_word rest (by simp [isPrefix]) (by simp [decode16, decode16Group0, decode16Group0Low9])

theorem EncodingRoundTrip.notRmRn (m : BitVec 4) (n : BitVec 4) : EncodingRoundTrip.Statement (.notRmRn m n) := fun _ rest =>
  decode_word rest (by simp [isPrefix]) (by simp [decode16, decode16Group3])

theorem EncodingRoundTrip.notRmRnCe (q : Bool) (m : BitVec 5) (n : BitVec 5) : EncodingRoundTrip.Statement (.notRmRnCe q m n) := fun _ rest =>
  decode_pairCE rest (by simp [decodeCE, decodeCEGroup4])

theorem EncodingRoundTrip.orRmRn (m : BitVec 4) (n : BitVec 4) : EncodingRoundTrip.Statement (.orRmRn m n) := fun _ rest =>
  decode_word rest (by simp [isPrefix]) (by simp [decode16, decode16Group2])

theorem EncodingRoundTrip.orRmRnCe (q : Bool) (m : BitVec 5) (n : BitVec 5) : EncodingRoundTrip.Statement (.orRmRnCe q m n) := fun _ rest =>
  decode_pairCE rest (by simp [decodeCE, decodeCEGroup4])

theorem EncodingRoundTrip.orImm8R0 (imm : BitVec 8) : EncodingRoundTrip.Statement (.orImm8R0 imm) := fun _ rest =>
  decode_word rest (by simp [isPrefix]) (by simp [decode16, decode16GroupC])

theorem EncodingRoundTrip.orImm12sRn (imm : BitVec 12) (n : BitVec 4) : EncodingRoundTrip.Statement (.orImm12sRn imm n) := fun _ rest =>
  decode_pair8E rest (by simp [decode8E, decode8EGroupC])

theorem EncodingRoundTrip.orRmImm8Rn (m : BitVec 4) (imm : BitVec 8) (n : BitVec 4) : EncodingRoundTrip.Statement (.orRmImm8Rn m imm n) := fun _ rest =>
  decode_pair8E rest (by simp [decode8E, decode8EGroup2])

theorem EncodingRoundTrip.orRmImm6Rn (m : BitVec 5) (imm : BitVec 6) (n : BitVec 5) : EncodingRoundTrip.Statement (.orRmImm6Rn m imm n) := fun _ rest =>
  decode_pairCE rest (by simp [decodeCE, decodeCEGroup2])

theorem EncodingRoundTrip.orRmRoRn (q : Bool) (m : BitVec 5) (o : BitVec 5) (n : BitVec 5) : EncodingRoundTrip.Statement (.orRmRoRn q m o n) := fun _ rest =>
  decode_pairCE rest (by simp [decodeCE, decodeCEGroupA])

theorem EncodingRoundTrip.swapBRn (n : BitVec 4) : EncodingRoundTrip.Statement (.swapBRn n) := fun _ rest =>
  decode_word rest (by simp [isPrefix]) (by simp [decode16, decode16Group4, decode16Group4Low9])

theorem EncodingRoundTrip.swapBRmRn (m : BitVec 5) (n : BitVec 5) : EncodingRoundTrip.Statement (.swapBRmRn m n) := fun _ rest =>
  decode_pairCE rest (by simp [decodeCE, decodeCEGroup6, decodeCEGroup6LowF])

theorem EncodingRoundTrip.swapWRn (n : BitVec 4) : EncodingRoundTrip.Statement (.swapWRn n) := fun _ rest =>
  decode_word rest (by simp [isPrefix]) (by simp [decode16, decode16Group4, decode16Group4Low9])

theorem EncodingRoundTrip.swapWRmRn (m : BitVec 5) (n : BitVec 5) : EncodingRoundTrip.Statement (.swapWRmRn m n) := fun _ rest =>
  decode_pairCE rest (by simp [decodeCE, decodeCEGroup6, decodeCEGroup6LowF])

theorem EncodingRoundTrip.tstRmRn (m : BitVec 4) (n : BitVec 4) : EncodingRoundTrip.Statement (.tstRmRn m n) := fun _ rest =>
  decode_word rest (by simp [isPrefix]) (by simp [decode16, decode16Group2])

theorem EncodingRoundTrip.tstRmRnCe (q : Bool) (m : BitVec 5) (n : BitVec 5) : EncodingRoundTrip.Statement (.tstRmRnCe q m n) := fun _ rest =>
  decode_pairCE rest (by simp [decodeCE, decodeCEGroup4])

theorem EncodingRoundTrip.tstImm8R0 (imm : BitVec 8) : EncodingRoundTrip.Statement (.tstImm8R0 imm) := fun _ rest =>
  decode_word rest (by simp [isPrefix]) (by simp [decode16, decode16GroupC])

theorem EncodingRoundTrip.tstImm12sRn (imm : BitVec 12) (n : BitVec 4) : EncodingRoundTrip.Statement (.tstImm12sRn imm n) := fun _ rest =>
  decode_pair8E rest (by simp [decode8E, decode8EGroupC])

theorem EncodingRoundTrip.tstImm10sRn (q : Bool) (imm : BitVec 10) (n : BitVec 5) : EncodingRoundTrip.Statement (.tstImm10sRn q imm n) := fun _ rest =>
  decode_pairCE rest (by simp [decodeCE, decodeCEGroupC])

theorem EncodingRoundTrip.xorRmRn (m : BitVec 4) (n : BitVec 4) : EncodingRoundTrip.Statement (.xorRmRn m n) := fun _ rest =>
  decode_word rest (by simp [isPrefix]) (by simp [decode16, decode16Group2])

theorem EncodingRoundTrip.xorRmRnCe (q : Bool) (m : BitVec 5) (n : BitVec 5) : EncodingRoundTrip.Statement (.xorRmRnCe q m n) := fun _ rest =>
  decode_pairCE rest (by simp [decodeCE, decodeCEGroup4])

theorem EncodingRoundTrip.xorImm8R0 (imm : BitVec 8) : EncodingRoundTrip.Statement (.xorImm8R0 imm) := fun _ rest =>
  decode_word rest (by simp [isPrefix]) (by simp [decode16, decode16GroupC])

theorem EncodingRoundTrip.xorImm12sRn (imm : BitVec 12) (n : BitVec 4) : EncodingRoundTrip.Statement (.xorImm12sRn imm n) := fun _ rest =>
  decode_pair8E rest (by simp [decode8E, decode8EGroupC])

theorem EncodingRoundTrip.xorImm10sRn (q : Bool) (imm : BitVec 10) (n : BitVec 5) : EncodingRoundTrip.Statement (.xorImm10sRn q imm n) := fun _ rest =>
  decode_pairCE rest (by simp [decodeCE, decodeCEGroupC])

theorem EncodingRoundTrip.xorRmImm8Rn (m : BitVec 4) (imm : BitVec 8) (n : BitVec 4) : EncodingRoundTrip.Statement (.xorRmImm8Rn m imm n) := fun _ rest =>
  decode_pair8E rest (by simp [decode8E, decode8EGroup2])

theorem EncodingRoundTrip.xorRmImm6Rn (m : BitVec 5) (imm : BitVec 6) (n : BitVec 5) : EncodingRoundTrip.Statement (.xorRmImm6Rn m imm n) := fun _ rest =>
  decode_pairCE rest (by simp [decodeCE, decodeCEGroup2])

theorem EncodingRoundTrip.xorRmRoRn (q : Bool) (m : BitVec 5) (o : BitVec 5) (n : BitVec 5) : EncodingRoundTrip.Statement (.xorRmRoRn q m o n) := fun _ rest =>
  decode_pairCE rest (by simp [decodeCE, decodeCEGroupA])

theorem EncodingRoundTrip.xtrctR4R0 : EncodingRoundTrip.Statement .xtrctR4R0 := fun _ rest =>
  decode_word rest (by simp [isPrefix]) (by simp [decode16, decode16Group0, decode16Group0Low8])

theorem EncodingRoundTrip.xtrctR0R4 : EncodingRoundTrip.Statement .xtrctR0R4 := fun _ rest =>
  decode_word rest (by simp [isPrefix]) (by simp [decode16, decode16Group0, decode16Group0Low8])

theorem EncodingRoundTrip.rot32 (n : BitVec 4) : EncodingRoundTrip.Statement (.rot32 n) := fun _ rest =>
  decode_word rest (by simp [isPrefix]) (by simp [decode16, decode16Group4, decode16Group4Low4])

theorem EncodingRoundTrip.rotcl (n : BitVec 4) : EncodingRoundTrip.Statement (.rotcl n) := fun _ rest =>
  decode_word rest (by simp [isPrefix]) (by simp [decode16, decode16Group4, decode16Group4Low4])

theorem EncodingRoundTrip.rotcr (n : BitVec 4) : EncodingRoundTrip.Statement (.rotcr n) := fun _ rest =>
  decode_word rest (by simp [isPrefix]) (by simp [decode16, decode16Group4, decode16Group4Low5])

theorem EncodingRoundTrip.rotl (n : BitVec 4) : EncodingRoundTrip.Statement (.rotl n) := fun _ rest =>
  decode_word rest (by simp [isPrefix]) (by simp [decode16, decode16Group4, decode16Group4Low4])

theorem EncodingRoundTrip.rotr (n : BitVec 4) : EncodingRoundTrip.Statement (.rotr n) := fun _ rest =>
  decode_word rest (by simp [isPrefix]) (by simp [decode16, decode16Group4, decode16Group4Low5])

theorem EncodingRoundTrip.shadRmRn (m : BitVec 4) (n : BitVec 4) : EncodingRoundTrip.Statement (.shadRmRn m n) := fun _ rest =>
  decode_word rest (by simp [isPrefix]) (by simp [decode16, decode16Group4])

theorem EncodingRoundTrip.shadRmRnCe (q : Bool) (m : BitVec 5) (n : BitVec 5) : EncodingRoundTrip.Statement (.shadRmRnCe q m n) := fun _ rest =>
  decode_pairCE rest (by simp [decodeCE, decodeCEGroup4])

theorem EncodingRoundTrip.shadRmImmRn (m : BitVec 4) (imm : BitVec 8) (n : BitVec 4) : EncodingRoundTrip.Statement (.shadRmImmRn m imm n) := fun _ rest =>
  decode_pair8E rest (by simp [decode8E, decode8EGroup4])

theorem EncodingRoundTrip.shadRmRoRn (q : Bool) (m : BitVec 5) (o : BitVec 5) (n : BitVec 5) : EncodingRoundTrip.Statement (.shadRmRoRn q m o n) := fun _ rest =>
  decode_pairCE rest (by simp [decodeCE, decodeCEGroupA])

theorem EncodingRoundTrip.shadL (m : BitVec 5) (imm : BitVec 6) (n : BitVec 5) : EncodingRoundTrip.Statement (.shadL m imm n) := fun _ rest =>
  decode_pairCE rest (by simp [decodeCE, decodeCEGroup4])

theorem EncodingRoundTrip.shal (n : BitVec 4) : EncodingRoundTrip.Statement (.shal n) := fun _ rest =>
  decode_word rest (by simp [isPrefix]) (by simp [decode16, decode16Group4, decode16Group4Low0])

theorem EncodingRoundTrip.shalQ (m : BitVec 5) (imm : BitVec 6) (n : BitVec 5) : EncodingRoundTrip.Statement (.shalQ m imm n) := fun _ rest =>
  decode_pairCE rest (by simp [decodeCE, decodeCEGroup3])

theorem EncodingRoundTrip.sharRn (n : BitVec 4) : EncodingRoundTrip.Statement (.sharRn n) := fun _ rest =>
  decode_word rest (by simp [isPrefix]) (by simp [decode16, decode16Group4, decode16Group4Low1])

theorem EncodingRoundTrip.sharQ (m : BitVec 5) (imm : BitVec 6) (n : BitVec 5) : EncodingRoundTrip.Statement (.sharQ m imm n) := fun _ rest =>
  decode_pairCE rest (by simp [decodeCE, decodeCEGroup3])

theorem EncodingRoundTrip.sharRmRoRn (q : Bool) (m : BitVec 5) (o : BitVec 5) (n : BitVec 5) : EncodingRoundTrip.Statement (.sharRmRoRn q m o n) := fun _ rest =>
  decode_pairCE rest (by simp [decodeCE, decodeCEGroupA])

theorem EncodingRoundTrip.shldRmRn (m : BitVec 4) (n : BitVec 4) : EncodingRoundTrip.Statement (.shldRmRn m n) := fun _ rest =>
  decode_word rest (by simp [isPrefix]) (by simp [decode16, decode16Group4])

theorem EncodingRoundTrip.shldRmImm8Rn (m : BitVec 4) (imm : BitVec 8) (n : BitVec 4) : EncodingRoundTrip.Statement (.shldRmImm8Rn m imm n) := fun _ rest =>
  decode_pair8E rest (by simp [decode8E, decode8EGroup4])

theorem EncodingRoundTrip.shldRmImm6Rn (m : BitVec 5) (imm : BitVec 6) (n : BitVec 5) : EncodingRoundTrip.Statement (.shldRmImm6Rn m imm n) := fun _ rest =>
  decode_pairCE rest (by simp [decodeCE, decodeCEGroup4])

theorem EncodingRoundTrip.shldRmRoRn (q : Bool) (m : BitVec 5) (o : BitVec 5) (n : BitVec 5) : EncodingRoundTrip.Statement (.shldRmRoRn q m o n) := fun _ rest =>
  decode_pairCE rest (by simp [decodeCE, decodeCEGroupA])

theorem EncodingRoundTrip.shll (n : BitVec 4) : EncodingRoundTrip.Statement (.shll n) := fun _ rest =>
  decode_word rest (by simp [isPrefix]) (by simp [decode16, decode16Group4, decode16Group4Low0])

theorem EncodingRoundTrip.shll2 (n : BitVec 4) : EncodingRoundTrip.Statement (.shll2 n) := fun _ rest =>
  decode_word rest (by simp [isPrefix]) (by simp [decode16, decode16Group4, decode16Group4Low8])

theorem EncodingRoundTrip.shll4 (n : BitVec 4) : EncodingRoundTrip.Statement (.shll4 n) := fun _ rest =>
  decode_word rest (by simp [isPrefix]) (by simp [decode16, decode16Group4, decode16Group4Low4])

theorem EncodingRoundTrip.shll8 (n : BitVec 4) : EncodingRoundTrip.Statement (.shll8 n) := fun _ rest =>
  decode_word rest (by simp [isPrefix]) (by simp [decode16, decode16Group4, decode16Group4Low8])

theorem EncodingRoundTrip.shll16 (n : BitVec 4) : EncodingRoundTrip.Statement (.shll16 n) := fun _ rest =>
  decode_word rest (by simp [isPrefix]) (by simp [decode16, decode16Group4, decode16Group4Low8])

theorem EncodingRoundTrip.shll32 (n : BitVec 4) : EncodingRoundTrip.Statement (.shll32 n) := fun _ rest =>
  decode_word rest (by simp [isPrefix]) (by simp [decode16, decode16Group4, decode16Group4Low8])

theorem EncodingRoundTrip.shlrRn (n : BitVec 4) : EncodingRoundTrip.Statement (.shlrRn n) := fun _ rest =>
  decode_word rest (by simp [isPrefix]) (by simp [decode16, decode16Group4, decode16Group4Low1])

theorem EncodingRoundTrip.shlrQ (m : BitVec 5) (imm : BitVec 6) (n : BitVec 5) : EncodingRoundTrip.Statement (.shlrQ m imm n) := fun _ rest =>
  decode_pairCE rest (by simp [decodeCE, decodeCEGroup3])

theorem EncodingRoundTrip.shlrRmRoRn (q : Bool) (m : BitVec 5) (o : BitVec 5) (n : BitVec 5) : EncodingRoundTrip.Statement (.shlrRmRoRn q m o n) := fun _ rest =>
  decode_pairCE rest (by simp [decodeCE, decodeCEGroupA])

theorem EncodingRoundTrip.shlr2 (n : BitVec 4) : EncodingRoundTrip.Statement (.shlr2 n) := fun _ rest =>
  decode_word rest (by simp [isPrefix]) (by simp [decode16, decode16Group4, decode16Group4Low9])

theorem EncodingRoundTrip.shlr4 (n : BitVec 4) : EncodingRoundTrip.Statement (.shlr4 n) := fun _ rest =>
  decode_word rest (by simp [isPrefix]) (by simp [decode16, decode16Group4, decode16Group4Low5])

theorem EncodingRoundTrip.shlr8 (n : BitVec 4) : EncodingRoundTrip.Statement (.shlr8 n) := fun _ rest =>
  decode_word rest (by simp [isPrefix]) (by simp [decode16, decode16Group4, decode16Group4Low9])

theorem EncodingRoundTrip.shlr16 (n : BitVec 4) : EncodingRoundTrip.Statement (.shlr16 n) := fun _ rest =>
  decode_word rest (by simp [isPrefix]) (by simp [decode16, decode16Group4, decode16Group4Low9])

theorem EncodingRoundTrip.shlr32 (n : BitVec 4) : EncodingRoundTrip.Statement (.shlr32 n) := fun _ rest =>
  decode_word rest (by simp [isPrefix]) (by simp [decode16, decode16Group4, decode16Group4Low9])

theorem EncodingRoundTrip.casL : EncodingRoundTrip.Statement .casL := fun _ rest =>
  decode_word rest (by simp [isPrefix]) (by simp [decode16, decode16Group0, decode16Group0Low8])

theorem EncodingRoundTrip.leaBAtPcR0Rn (n : BitVec 4) : EncodingRoundTrip.Statement (.leaBAtPcR0Rn n) := fun _ rest =>
  decode_word rest (by simp [isPrefix]) (by simp [decode16, decode16Group4, decode16Group4Low5])

theorem EncodingRoundTrip.leaBAtRmRoDisp4Rn (m : BitVec 4) (o : BitVec 4) (disp : BitVec 4) (n : BitVec 4) : EncodingRoundTrip.Statement (.leaBAtRmRoDisp4Rn m o disp n) := fun _ rest =>
  decode_pair8E rest (by simp [decode8E, decode8EGroup6])

theorem EncodingRoundTrip.leaBAtRmDisp8sRn (m : BitVec 4) (disp : BitVec 8) (n : BitVec 4) : EncodingRoundTrip.Statement (.leaBAtRmDisp8sRn m disp n) := fun _ rest =>
  decode_pair8E rest (by simp [decode8E, decode8EGroup6])

theorem EncodingRoundTrip.leaBAtRmRoRn (m : BitVec 5) (o : BitVec 4) (n : BitVec 5) : EncodingRoundTrip.Statement (.leaBAtRmRoRn m o n) := fun _ rest =>
  decode_pairCE rest (by simp [decodeCE, decodeCEGroup6])

theorem EncodingRoundTrip.leaBAtRmDisp6Rn (m : BitVec 5) (disp : BitVec 6) (n : BitVec 5) : EncodingRoundTrip.Statement (.leaBAtRmDisp6Rn m disp n) := fun _ rest =>
  decode_pairCE rest (by simp [decodeCE, decodeCEGroup6])

theorem EncodingRoundTrip.leaWAtRmRoDisp4Rn (m : BitVec 4) (o : BitVec 4) (disp : BitVec 4) (n : BitVec 4) : EncodingRoundTrip.Statement (.leaWAtRmRoDisp4Rn m o disp n) := fun _ rest =>
  decode_pair8E rest (by simp [decode8E, decode8EGroup6])

theorem EncodingRoundTrip.leaWAtRmDisp8sRn (m : BitVec 4) (disp : BitVec 8) (n : BitVec 4) : EncodingRoundTrip.Statement (.leaWAtRmDisp8sRn m disp n) := fun _ rest =>
  decode_pair8E rest (by simp [decode8E, decode8EGroup6])

theorem EncodingRoundTrip.leaWAtRmRoRn (m : BitVec 5) (o : BitVec 4) (n : BitVec 5) : EncodingRoundTrip.Statement (.leaWAtRmRoRn m o n) := fun _ rest =>
  decode_pairCE rest (by simp [decodeCE, decodeCEGroup6])

theorem EncodingRoundTrip.leaWAtRmDisp6Rn (m : BitVec 5) (disp : BitVec 6) (n : BitVec 5) : EncodingRoundTrip.Statement (.leaWAtRmDisp6Rn m disp n) := fun _ rest =>
  decode_pairCE rest (by simp [decodeCE, decodeCEGroup6])

theorem EncodingRoundTrip.leaLAtRmRoDisp4Rn (m : BitVec 4) (o : BitVec 4) (disp : BitVec 4) (n : BitVec 4) : EncodingRoundTrip.Statement (.leaLAtRmRoDisp4Rn m o disp n) := fun _ rest =>
  decode_pair8E rest (by simp [decode8E, decode8EGroup6])

theorem EncodingRoundTrip.leaLAtRmDisp8sRn (m : BitVec 4) (disp : BitVec 8) (n : BitVec 4) : EncodingRoundTrip.Statement (.leaLAtRmDisp8sRn m disp n) := fun _ rest =>
  decode_pair8E rest (by simp [decode8E, decode8EGroup6])

theorem EncodingRoundTrip.leaLAtRmRoRn (m : BitVec 5) (o : BitVec 4) (n : BitVec 5) : EncodingRoundTrip.Statement (.leaLAtRmRoRn m o n) := fun _ rest =>
  decode_pairCE rest (by simp [decodeCE, decodeCEGroup6])

theorem EncodingRoundTrip.leaLAtRmDisp6Rn (m : BitVec 5) (disp : BitVec 6) (n : BitVec 5) : EncodingRoundTrip.Statement (.leaLAtRmDisp6Rn m disp n) := fun _ rest =>
  decode_pairCE rest (by simp [decodeCE, decodeCEGroup6])

theorem EncodingRoundTrip.leaQAtRmRoDisp4Rn (m : BitVec 4) (o : BitVec 4) (disp : BitVec 4) (n : BitVec 4) : EncodingRoundTrip.Statement (.leaQAtRmRoDisp4Rn m o disp n) := fun _ rest =>
  decode_pair8E rest (by simp [decode8E, decode8EGroup6])

theorem EncodingRoundTrip.leaQAtRmDisp8sRn (m : BitVec 4) (disp : BitVec 8) (n : BitVec 4) : EncodingRoundTrip.Statement (.leaQAtRmDisp8sRn m disp n) := fun _ rest =>
  decode_pair8E rest (by simp [decode8E, decode8EGroup6])

theorem EncodingRoundTrip.leaQAtRmRoRn (m : BitVec 5) (o : BitVec 4) (n : BitVec 5) : EncodingRoundTrip.Statement (.leaQAtRmRoRn m o n) := fun _ rest =>
  decode_pairCE rest (by simp [decodeCE, decodeCEGroup6])

theorem EncodingRoundTrip.leaQAtRmDisp6Rn (m : BitVec 5) (disp : BitVec 6) (n : BitVec 5) : EncodingRoundTrip.Statement (.leaQAtRmDisp6Rn m disp n) := fun _ rest =>
  decode_pairCE rest (by simp [decodeCE, decodeCEGroup6])

theorem EncodingRoundTrip.movBRmAtR0Rn (m : BitVec 4) (n : BitVec 4) : EncodingRoundTrip.Statement (.movBRmAtR0Rn m n) := fun _ rest =>
  decode_word rest (by simp [isPrefix]) (by simp [decode16, decode16Group0])

theorem EncodingRoundTrip.movBRmAtRn (m : BitVec 4) (n : BitVec 4) : EncodingRoundTrip.Statement (.movBRmAtRn m n) := fun _ rest =>
  decode_word rest (by simp [isPrefix]) (by simp [decode16, decode16Group2])

theorem EncodingRoundTrip.movBRmDecRn (m : BitVec 4) (n : BitVec 4) : EncodingRoundTrip.Statement (.movBRmDecRn m n) := fun _ rest =>
  decode_word rest (by simp [isPrefix]) (by simp [decode16, decode16Group2])

theorem EncodingRoundTrip.movBAtR0RmRn (m : BitVec 4) (n : BitVec 4) : EncodingRoundTrip.Statement (.movBAtR0RmRn m n) := fun _ rest =>
  decode_word rest (by simp [isPrefix]) (by simp [decode16, decode16Group0])

theorem EncodingRoundTrip.movBAtRmRn (m : BitVec 4) (n : BitVec 4) : EncodingRoundTrip.Statement (.movBAtRmRn m n) := fun _ rest =>
  decode_word rest (by simp [isPrefix]) (by simp [decode16, decode16Group6])

theorem EncodingRoundTrip.movBIncRmRn (m : BitVec 4) (n : BitVec 4) : EncodingRoundTrip.Statement (.movBIncRmRn m n) := fun _ rest =>
  decode_word rest (by simp [isPrefix]) (by simp [decode16, decode16Group6])

theorem EncodingRoundTrip.movBRmAtPcR0 (m : BitVec 4) : EncodingRoundTrip.Statement (.movBRmAtPcR0 m) := fun _ rest =>
  decode_word rest (by simp [isPrefix]) (by simp [decode16, decode16Group4, decode16Group4Low1])

theorem EncodingRoundTrip.movBAtPcR0Rn (n : BitVec 4) : EncodingRoundTrip.Statement (.movBAtPcR0Rn n) := fun _ rest =>
  decode_word rest (by simp [isPrefix]) (by simp [decode16, decode16Group4, decode16Group4Low5])

theorem EncodingRoundTrip.movBRmAtRnRoDisp4 (m : BitVec 4) (n : BitVec 4) (o : BitVec 4) (disp : BitVec 4) : EncodingRoundTrip.Statement (.movBRmAtRnRoDisp4 m n o disp) := fun _ rest =>
  decode_pair8E rest (by simp [decode8E, decode8EGroup0])

theorem EncodingRoundTrip.movBRmAtRnDisp8s (m : BitVec 4) (n : BitVec 4) (disp : BitVec 8) : EncodingRoundTrip.Statement (.movBRmAtRnDisp8s m n disp) := fun _ rest =>
  decode_pair8E rest (by simp [decode8E, decode8EGroup2])

theorem EncodingRoundTrip.movBAtRmRoDisp4Rn (m : BitVec 4) (o : BitVec 4) (disp : BitVec 4) (n : BitVec 4) : EncodingRoundTrip.Statement (.movBAtRmRoDisp4Rn m o disp n) := fun _ rest =>
  decode_pair8E rest (by simp [decode8E, decode8EGroup0])

theorem EncodingRoundTrip.movBAtRmDisp8sRn (m : BitVec 4) (disp : BitVec 8) (n : BitVec 4) : EncodingRoundTrip.Statement (.movBAtRmDisp8sRn m disp n) := fun _ rest =>
  decode_pair8E rest (by simp [decode8E, decode8EGroup6])

theorem EncodingRoundTrip.movBRmAtRnRo (m : BitVec 5) (n : BitVec 5) (o : BitVec 5) : EncodingRoundTrip.Statement (.movBRmAtRnRo m n o) := fun _ rest =>
  decode_pairCE rest (by simp [decodeCE, decodeCEGroup0])

theorem EncodingRoundTrip.movBRmAtRnDisp6 (m : BitVec 5) (n : BitVec 5) (disp : BitVec 6) : EncodingRoundTrip.Statement (.movBRmAtRnDisp6 m n disp) := fun _ rest =>
  decode_pairCE rest (by simp [decodeCE, decodeCEGroup2])

theorem EncodingRoundTrip.movBAtRmRoRn (m : BitVec 5) (o : BitVec 5) (n : BitVec 5) : EncodingRoundTrip.Statement (.movBAtRmRoRn m o n) := fun _ rest =>
  decode_pairCE rest (by simp [decodeCE, decodeCEGroup0])

theorem EncodingRoundTrip.movBAtRmDisp6Rn (m : BitVec 5) (disp : BitVec 6) (n : BitVec 5) : EncodingRoundTrip.Statement (.movBAtRmDisp6Rn m disp n) := fun _ rest =>
  decode_pairCE rest (by simp [decodeCE, decodeCEGroup6])

theorem EncodingRoundTrip.movLRmAtR0Rn (m : BitVec 4) (n : BitVec 4) : EncodingRoundTrip.Statement (.movLRmAtR0Rn m n) := fun _ rest =>
  decode_word rest (by simp [isPrefix]) (by simp [decode16, decode16Group0])

theorem EncodingRoundTrip.movLRmAtRnDisp4 (m : BitVec 4) (n : BitVec 4) (disp : BitVec 4) : EncodingRoundTrip.Statement (.movLRmAtRnDisp4 m n disp) := fun _ rest =>
  decode_word rest (by simp [isPrefix]) (by simp [decode16, decode16Group1])

theorem EncodingRoundTrip.movLRmAtRn (m : BitVec 4) (n : BitVec 4) : EncodingRoundTrip.Statement (.movLRmAtRn m n) := fun _ rest =>
  decode_word rest (by simp [isPrefix]) (by simp [decode16, decode16Group2])

theorem EncodingRoundTrip.movLRmDecRn (m : BitVec 4) (n : BitVec 4) : EncodingRoundTrip.Statement (.movLRmDecRn m n) := fun _ rest =>
  decode_word rest (by simp [isPrefix]) (by simp [decode16, decode16Group2])

theorem EncodingRoundTrip.movLAtR0RmRn (m : BitVec 4) (n : BitVec 4) : EncodingRoundTrip.Statement (.movLAtR0RmRn m n) := fun _ rest =>
  decode_word rest (by simp [isPrefix]) (by simp [decode16, decode16Group0])

theorem EncodingRoundTrip.movLAtRmDisp4Rn (m : BitVec 4) (disp : BitVec 4) (n : BitVec 4) : EncodingRoundTrip.Statement (.movLAtRmDisp4Rn m disp n) := fun _ rest =>
  decode_word rest (by simp [isPrefix]) (by simp [decode16, decode16Group5])

theorem EncodingRoundTrip.movLAtRmRn (m : BitVec 4) (n : BitVec 4) : EncodingRoundTrip.Statement (.movLAtRmRn m n) := fun _ rest =>
  decode_word rest (by simp [isPrefix]) (by simp [decode16, decode16Group6])

theorem EncodingRoundTrip.movLIncRmRn (m : BitVec 4) (n : BitVec 4) : EncodingRoundTrip.Statement (.movLIncRmRn m n) := fun _ rest =>
  decode_word rest (by simp [isPrefix]) (by simp [decode16, decode16Group6])

theorem EncodingRoundTrip.movLAtPcDisp8Rn (disp : BitVec 8) (n : BitVec 4) : EncodingRoundTrip.Statement (.movLAtPcDisp8Rn disp n) := fun _ rest =>
  decode_word rest (by simp [isPrefix]) (by simp [decode16, decode16GroupD])

theorem EncodingRoundTrip.movLRmAtPcR0 (m : BitVec 4) : EncodingRoundTrip.Statement (.movLRmAtPcR0 m) := fun _ rest =>
  decode_word rest (by simp [isPrefix]) (by simp [decode16, decode16Group4, decode16Group4Low1])

theorem EncodingRoundTrip.movLAtPcR0Rn (n : BitVec 4) : EncodingRoundTrip.Statement (.movLAtPcR0Rn n) := fun _ rest =>
  decode_word rest (by simp [isPrefix]) (by simp [decode16, decode16Group4, decode16Group4Low5])

theorem EncodingRoundTrip.movLRmAtRnRoDisp4 (m : BitVec 4) (n : BitVec 4) (o : BitVec 4) (disp : BitVec 4) : EncodingRoundTrip.Statement (.movLRmAtRnRoDisp4 m n o disp) := fun _ rest =>
  decode_pair8E rest (by simp [decode8E, decode8EGroup0])

theorem EncodingRoundTrip.movLRmAtRnRoDisp8s (m : BitVec 4) (n : BitVec 4) (o : BitVec 4) (disp : BitVec 8) : EncodingRoundTrip.Statement (.movLRmAtRnRoDisp8s m n o disp) := fun _ rest =>
  decode_pair8E rest (by simp [decode8E, decode8EGroup1])

theorem EncodingRoundTrip.movLRmAtRnDisp8s (m : BitVec 4) (n : BitVec 4) (disp : BitVec 8) : EncodingRoundTrip.Statement (.movLRmAtRnDisp8s m n disp) := fun _ rest =>
  decode_pair8E rest (by simp [decode8E, decode8EGroup2])

theorem EncodingRoundTrip.movLAtRmRoDisp4Rn (m : BitVec 4) (o : BitVec 4) (disp : BitVec 4) (n : BitVec 4) : EncodingRoundTrip.Statement (.movLAtRmRoDisp4Rn m o disp n) := fun _ rest =>
  decode_pair8E rest (by simp [decode8E, decode8EGroup0])

theorem EncodingRoundTrip.movLAtRmRoDisp8sRn (m : BitVec 4) (o : BitVec 4) (disp : BitVec 8) (n : BitVec 4) : EncodingRoundTrip.Statement (.movLAtRmRoDisp8sRn m o disp n) := fun _ rest =>
  decode_pair8E rest (by simp [decode8E, decode8EGroup5])

theorem EncodingRoundTrip.movLAtRmDisp8sRn (m : BitVec 4) (disp : BitVec 8) (n : BitVec 4) : EncodingRoundTrip.Statement (.movLAtRmDisp8sRn m disp n) := fun _ rest =>
  decode_pair8E rest (by simp [decode8E, decode8EGroup6])

theorem EncodingRoundTrip.movLRmAtRnRo (m : BitVec 5) (n : BitVec 5) (o : BitVec 5) : EncodingRoundTrip.Statement (.movLRmAtRnRo m n o) := fun _ rest =>
  decode_pairCE rest (by simp [decodeCE, decodeCEGroup0])

theorem EncodingRoundTrip.movLRmAtRnDisp6 (m : BitVec 5) (n : BitVec 5) (disp : BitVec 6) : EncodingRoundTrip.Statement (.movLRmAtRnDisp6 m n disp) := fun _ rest =>
  decode_pairCE rest (by simp [decodeCE, decodeCEGroup2])

theorem EncodingRoundTrip.movLAtRmRoRn (m : BitVec 5) (o : BitVec 5) (n : BitVec 5) : EncodingRoundTrip.Statement (.movLAtRmRoRn m o n) := fun _ rest =>
  decode_pairCE rest (by simp [decodeCE, decodeCEGroup0])

theorem EncodingRoundTrip.movLAtRmDisp6Rn (m : BitVec 5) (disp : BitVec 6) (n : BitVec 5) : EncodingRoundTrip.Statement (.movLAtRmDisp6Rn m disp n) := fun _ rest =>
  decode_pairCE rest (by simp [decodeCE, decodeCEGroup6])

theorem EncodingRoundTrip.movQRmAtR0Rn (m : BitVec 4) (n : BitVec 4) : EncodingRoundTrip.Statement (.movQRmAtR0Rn m n) := fun _ rest =>
  decode_word rest (by simp [isPrefix]) (by simp [decode16, decode16Group0])

theorem EncodingRoundTrip.movQAtR0RmRn (m : BitVec 4) (n : BitVec 4) : EncodingRoundTrip.Statement (.movQAtR0RmRn m n) := fun _ rest =>
  decode_word rest (by simp [isPrefix]) (by simp [decode16, decode16Group0])

theorem EncodingRoundTrip.movQRmAtRn (m : BitVec 4) (n : BitVec 4) : EncodingRoundTrip.Statement (.movQRmAtRn m n) := fun _ rest =>
  decode_word rest (by simp [isPrefix]) (by simp [decode16, decode16Group2])

theorem EncodingRoundTrip.movQRmDecRn (m : BitVec 4) (n : BitVec 4) : EncodingRoundTrip.Statement (.movQRmDecRn m n) := fun _ rest =>
  decode_word rest (by simp [isPrefix]) (by simp [decode16, decode16Group2])

theorem EncodingRoundTrip.movQRmAtPcR0 (m : BitVec 4) : EncodingRoundTrip.Statement (.movQRmAtPcR0 m) := fun _ rest =>
  decode_word rest (by simp [isPrefix]) (by simp [decode16, decode16Group4, decode16Group4Low1])

theorem EncodingRoundTrip.movQAtPcR0Rn (n : BitVec 4) : EncodingRoundTrip.Statement (.movQAtPcR0Rn n) := fun _ rest =>
  decode_word rest (by simp [isPrefix]) (by simp [decode16, decode16Group4, decode16Group4Low5])

theorem EncodingRoundTrip.movQAtRmRn (m : BitVec 4) (n : BitVec 4) : EncodingRoundTrip.Statement (.movQAtRmRn m n) := fun _ rest =>
  decode_word rest (by simp [isPrefix]) (by simp [decode16, decode16Group6])

theorem EncodingRoundTrip.movQIncRmRn (m : BitVec 4) (n : BitVec 4) : EncodingRoundTrip.Statement (.movQIncRmRn m n) := fun _ rest =>
  decode_word rest (by simp [isPrefix]) (by simp [decode16, decode16Group6])

theorem EncodingRoundTrip.movQRmAtSpDisp4 (m : BitVec 4) (disp : BitVec 4) : EncodingRoundTrip.Statement (.movQRmAtSpDisp4 m disp) := fun _ rest =>
  decode_word rest (by simp [isPrefix]) (by simp [decode16, decode16GroupC])

theorem EncodingRoundTrip.movQAtSpDisp4Rn (disp : BitVec 4) (n : BitVec 4) : EncodingRoundTrip.Statement (.movQAtSpDisp4Rn disp n) := fun _ rest =>
  decode_word rest (by simp [isPrefix]) (by simp [decode16, decode16GroupC])

theorem EncodingRoundTrip.movQRmAtRnRoDisp4 (m : BitVec 4) (n : BitVec 4) (o : BitVec 4) (disp : BitVec 4) : EncodingRoundTrip.Statement (.movQRmAtRnRoDisp4 m n o disp) := fun _ rest =>
  decode_pair8E rest (by simp [decode8E, decode8EGroup0])

theorem EncodingRoundTrip.movQAtRmRoDisp4Rn (m : BitVec 4) (o : BitVec 4) (disp : BitVec 4) (n : BitVec 4) : EncodingRoundTrip.Statement (.movQAtRmRoDisp4Rn m o disp n) := fun _ rest =>
  decode_pair8E rest (by simp [decode8E, decode8EGroup0])

theorem EncodingRoundTrip.movQRmAtRnDisp8s (m : BitVec 4) (n : BitVec 4) (disp : BitVec 8) : EncodingRoundTrip.Statement (.movQRmAtRnDisp8s m n disp) := fun _ rest =>
  decode_pair8E rest (by simp [decode8E, decode8EGroup2])

theorem EncodingRoundTrip.movQAtRmDisp8sRn (m : BitVec 4) (disp : BitVec 8) (n : BitVec 4) : EncodingRoundTrip.Statement (.movQAtRmDisp8sRn m disp n) := fun _ rest =>
  decode_pair8E rest (by simp [decode8E, decode8EGroup6])

theorem EncodingRoundTrip.movQRmAtRnRo (m : BitVec 5) (n : BitVec 5) (o : BitVec 5) : EncodingRoundTrip.Statement (.movQRmAtRnRo m n o) := fun _ rest =>
  decode_pairCE rest (by simp [decodeCE, decodeCEGroup0])

theorem EncodingRoundTrip.movQAtRmRoRn (m : BitVec 5) (o : BitVec 5) (n : BitVec 5) : EncodingRoundTrip.Statement (.movQAtRmRoRn m o n) := fun _ rest =>
  decode_pairCE rest (by simp [decodeCE, decodeCEGroup0])

theorem EncodingRoundTrip.movQRmAtRnDisp6 (m : BitVec 5) (n : BitVec 5) (disp : BitVec 6) : EncodingRoundTrip.Statement (.movQRmAtRnDisp6 m n disp) := fun _ rest =>
  decode_pairCE rest (by simp [decodeCE, decodeCEGroup2])

theorem EncodingRoundTrip.movQAtRmDisp6Rn (m : BitVec 5) (disp : BitVec 6) (n : BitVec 5) : EncodingRoundTrip.Statement (.movQAtRmDisp6Rn m disp n) := fun _ rest =>
  decode_pairCE rest (by simp [decodeCE, decodeCEGroup6])

theorem EncodingRoundTrip.movWRmAtR0Rn (m : BitVec 4) (n : BitVec 4) : EncodingRoundTrip.Statement (.movWRmAtR0Rn m n) := fun _ rest =>
  decode_word rest (by simp [isPrefix]) (by simp [decode16, decode16Group0])

theorem EncodingRoundTrip.movWAtR0RmRn (m : BitVec 4) (n : BitVec 4) : EncodingRoundTrip.Statement (.movWAtR0RmRn m n) := fun _ rest =>
  decode_word rest (by simp [isPrefix]) (by simp [decode16, decode16Group0])

theorem EncodingRoundTrip.movWRmAtRn (m : BitVec 4) (n : BitVec 4) : EncodingRoundTrip.Statement (.movWRmAtRn m n) := fun _ rest =>
  decode_word rest (by simp [isPrefix]) (by simp [decode16, decode16Group2])

theorem EncodingRoundTrip.movWRmDecRn (m : BitVec 4) (n : BitVec 4) : EncodingRoundTrip.Statement (.movWRmDecRn m n) := fun _ rest =>
  decode_word rest (by simp [isPrefix]) (by simp [decode16, decode16Group2])

theorem EncodingRoundTrip.movWRmAtPcR0 (m : BitVec 4) : EncodingRoundTrip.Statement (.movWRmAtPcR0 m) := fun _ rest =>
  decode_word rest (by simp [isPrefix]) (by simp [decode16, decode16Group4, decode16Group4Low1])

theorem EncodingRoundTrip.movWAtPcR0Rn (n : BitVec 4) : EncodingRoundTrip.Statement (.movWAtPcR0Rn n) := fun _ rest =>
  decode_word rest (by simp [isPrefix]) (by simp [decode16, decode16Group4, decode16Group4Low5])

theorem EncodingRoundTrip.movWAtRmRn (m : BitVec 4) (n : BitVec 4) : EncodingRoundTrip.Statement (.movWAtRmRn m n) := fun _ rest =>
  decode_word rest (by simp [isPrefix]) (by simp [decode16, decode16Group6])

theorem EncodingRoundTrip.movWIncRmRn (m : BitVec 4) (n : BitVec 4) : EncodingRoundTrip.Statement (.movWIncRmRn m n) := fun _ rest =>
  decode_word rest (by simp [isPrefix]) (by simp [decode16, decode16Group6])

theorem EncodingRoundTrip.movWAtPcDisp8Rn (disp : BitVec 8) (n : BitVec 4) : EncodingRoundTrip.Statement (.movWAtPcDisp8Rn disp n) := fun _ rest =>
  decode_word rest (by simp [isPrefix]) (by simp [decode16, decode16Group9])

theorem EncodingRoundTrip.movWRmAtRnRoDisp4 (m : BitVec 4) (n : BitVec 4) (o : BitVec 4) (disp : BitVec 4) : EncodingRoundTrip.Statement (.movWRmAtRnRoDisp4 m n o disp) := fun _ rest =>
  decode_pair8E rest (by simp [decode8E, decode8EGroup0])

theorem EncodingRoundTrip.movWAtRmRoDisp4Rn (m : BitVec 4) (o : BitVec 4) (disp : BitVec 4) (n : BitVec 4) : EncodingRoundTrip.Statement (.movWAtRmRoDisp4Rn m o disp n) := fun _ rest =>
  decode_pair8E rest (by simp [decode8E, decode8EGroup0])

theorem EncodingRoundTrip.movWRmAtRnDisp8s (m : BitVec 4) (n : BitVec 4) (disp : BitVec 8) : EncodingRoundTrip.Statement (.movWRmAtRnDisp8s m n disp) := fun _ rest =>
  decode_pair8E rest (by simp [decode8E, decode8EGroup2])

theorem EncodingRoundTrip.movWAtRmDisp8sRn (m : BitVec 4) (disp : BitVec 8) (n : BitVec 4) : EncodingRoundTrip.Statement (.movWAtRmDisp8sRn m disp n) := fun _ rest =>
  decode_pair8E rest (by simp [decode8E, decode8EGroup6])

theorem EncodingRoundTrip.movWRmAtRnRo (m : BitVec 5) (n : BitVec 5) (o : BitVec 5) : EncodingRoundTrip.Statement (.movWRmAtRnRo m n o) := fun _ rest =>
  decode_pairCE rest (by simp [decodeCE, decodeCEGroup0])

theorem EncodingRoundTrip.movWRmAtRnDisp6 (m : BitVec 5) (n : BitVec 5) (disp : BitVec 6) : EncodingRoundTrip.Statement (.movWRmAtRnDisp6 m n disp) := fun _ rest =>
  decode_pairCE rest (by simp [decodeCE, decodeCEGroup2])

theorem EncodingRoundTrip.movWAtRmRoRn (m : BitVec 5) (o : BitVec 5) (n : BitVec 5) : EncodingRoundTrip.Statement (.movWAtRmRoRn m o n) := fun _ rest =>
  decode_pairCE rest (by simp [decodeCE, decodeCEGroup0])

theorem EncodingRoundTrip.movWAtRmDisp6Rn (m : BitVec 5) (disp : BitVec 6) (n : BitVec 5) : EncodingRoundTrip.Statement (.movWAtRmDisp6Rn m disp n) := fun _ rest =>
  decode_pairCE rest (by simp [decodeCE, decodeCEGroup6])

theorem EncodingRoundTrip.mova (disp : BitVec 8) : EncodingRoundTrip.Statement (.mova disp) := fun _ rest =>
  decode_word rest (by simp [isPrefix]) (by simp [decode16, decode16GroupC])

theorem EncodingRoundTrip.movcaL (n : BitVec 4) : EncodingRoundTrip.Statement (.movcaL n) := fun _ rest =>
  decode_word rest (by simp [isPrefix]) (by simp [decode16, decode16Group0, decode16Group0Low3])

theorem EncodingRoundTrip.movuBAtRmDisp8sRn (m : BitVec 4) (disp : BitVec 8) (n : BitVec 4) : EncodingRoundTrip.Statement (.movuBAtRmDisp8sRn m disp n) := fun _ rest =>
  decode_pair8E rest (by simp [decode8E, decode8EGroup6])

theorem EncodingRoundTrip.movuBAtRmDisp6Rn (m : BitVec 5) (disp : BitVec 6) (n : BitVec 5) : EncodingRoundTrip.Statement (.movuBAtRmDisp6Rn m disp n) := fun _ rest =>
  decode_pairCE rest (by simp [decodeCE, decodeCEGroup6])

theorem EncodingRoundTrip.movuWAtRmDisp8sRn (m : BitVec 4) (disp : BitVec 8) (n : BitVec 4) : EncodingRoundTrip.Statement (.movuWAtRmDisp8sRn m disp n) := fun _ rest =>
  decode_pair8E rest (by simp [decode8E, decode8EGroup6])

theorem EncodingRoundTrip.movuWAtRmDisp6Rn (m : BitVec 5) (disp : BitVec 6) (n : BitVec 5) : EncodingRoundTrip.Statement (.movuWAtRmDisp6Rn m disp n) := fun _ rest =>
  decode_pairCE rest (by simp [decodeCE, decodeCEGroup6])

theorem EncodingRoundTrip.movuLAtRmDisp8sRn (m : BitVec 4) (disp : BitVec 8) (n : BitVec 4) : EncodingRoundTrip.Statement (.movuLAtRmDisp8sRn m disp n) := fun _ rest =>
  decode_pair8E rest (by simp [decode8E, decode8EGroup6])

theorem EncodingRoundTrip.movuLAtRmDisp6Rn (m : BitVec 5) (disp : BitVec 6) (n : BitVec 5) : EncodingRoundTrip.Statement (.movuLAtRmDisp6Rn m disp n) := fun _ rest =>
  decode_pairCE rest (by simp [decodeCE, decodeCEGroup6])

theorem EncodingRoundTrip.popQRn (n : BitVec 4) : EncodingRoundTrip.Statement (.popQRn n) := fun _ rest =>
  decode_word rest (by simp [isPrefix]) (by simp [decode16, decode16Group4, decode16Group4Low8])

theorem EncodingRoundTrip.popQRnHi (n : BitVec 4) : EncodingRoundTrip.Statement (.popQRnHi n) := fun _ rest =>
  decode_word rest (by simp [isPrefix]) (by simp [decode16, decode16Group4, decode16Group4Low8])

theorem EncodingRoundTrip.pushQRm (m : BitVec 4) : EncodingRoundTrip.Statement (.pushQRm m) := fun _ rest =>
  decode_word rest (by simp [isPrefix]) (by simp [decode16, decode16Group4, decode16Group4Low8])

theorem EncodingRoundTrip.pushQRmHi (m : BitVec 4) : EncodingRoundTrip.Statement (.pushQRmHi m) := fun _ rest =>
  decode_word rest (by simp [isPrefix]) (by simp [decode16, decode16Group4, decode16Group4Low8])

theorem EncodingRoundTrip.bfLabel8s (label : BitVec 8) : EncodingRoundTrip.Statement (.bfLabel8s label) := fun _ rest =>
  decode_word rest (by simp [isPrefix]) (by simp [decode16, decode16Group8])

theorem EncodingRoundTrip.bfLabel16s (label : BitVec 16) : EncodingRoundTrip.Statement (.bfLabel16s label) := fun _ rest =>
  decode_pair8E rest (by simp [decode8E, decode8EGroup8])

theorem EncodingRoundTrip.bfSLabel8s (label : BitVec 8) : EncodingRoundTrip.Statement (.bfSLabel8s label) := fun _ rest =>
  decode_word rest (by simp [isPrefix]) (by simp [decode16, decode16Group8])

theorem EncodingRoundTrip.bfSLabel16s (label : BitVec 16) : EncodingRoundTrip.Statement (.bfSLabel16s label) := fun _ rest =>
  decode_pair8E rest (by simp [decode8E, decode8EGroup8])

theorem EncodingRoundTrip.bra (label : BitVec 12) : EncodingRoundTrip.Statement (.bra label) := fun _ rest =>
  decode_word rest (by simp [isPrefix]) (by simp [decode16, decode16GroupA])

theorem EncodingRoundTrip.braf (n : BitVec 4) : EncodingRoundTrip.Statement (.braf n) := fun _ rest =>
  decode_word rest (by simp [isPrefix]) (by simp [decode16, decode16Group0, decode16Group0Low3])

theorem EncodingRoundTrip.braNLabel8s (label : BitVec 8) : EncodingRoundTrip.Statement (.braNLabel8s label) := fun _ rest =>
  decode_word rest (by simp [isPrefix]) (by simp [decode16, decode16Group8])

theorem EncodingRoundTrip.braNLabel16s (label : BitVec 16) : EncodingRoundTrip.Statement (.braNLabel16s label) := fun _ rest =>
  decode_pair8E rest (by simp [decode8E, decode8EGroup8])

theorem EncodingRoundTrip.bsr (label : BitVec 12) : EncodingRoundTrip.Statement (.bsr label) := fun _ rest =>
  decode_word rest (by simp [isPrefix]) (by simp [decode16, decode16GroupB])

theorem EncodingRoundTrip.bsrf (n : BitVec 4) : EncodingRoundTrip.Statement (.bsrf n) := fun _ rest =>
  decode_word rest (by simp [isPrefix]) (by simp [decode16, decode16Group0, decode16Group0Low3])

theorem EncodingRoundTrip.bsrN (label : BitVec 16) : EncodingRoundTrip.Statement (.bsrN label) := fun _ rest =>
  decode_pair8E rest (by simp [decode8E, decode8EGroup8])

theorem EncodingRoundTrip.btLabel8s (label : BitVec 8) : EncodingRoundTrip.Statement (.btLabel8s label) := fun _ rest =>
  decode_word rest (by simp [isPrefix]) (by simp [decode16, decode16Group8])

theorem EncodingRoundTrip.btLabel16s (label : BitVec 16) : EncodingRoundTrip.Statement (.btLabel16s label) := fun _ rest =>
  decode_pair8E rest (by simp [decode8E, decode8EGroup8])

theorem EncodingRoundTrip.btSLabel8s (label : BitVec 8) : EncodingRoundTrip.Statement (.btSLabel8s label) := fun _ rest =>
  decode_word rest (by simp [isPrefix]) (by simp [decode16, decode16Group8])

theorem EncodingRoundTrip.btSLabel16s (label : BitVec 16) : EncodingRoundTrip.Statement (.btSLabel16s label) := fun _ rest =>
  decode_pair8E rest (by simp [decode8E, decode8EGroup8])

theorem EncodingRoundTrip.jmp (n : BitVec 4) : EncodingRoundTrip.Statement (.jmp n) := fun _ rest =>
  decode_word rest (by simp [isPrefix]) (by simp [decode16, decode16Group4, decode16Group4LowB])

theorem EncodingRoundTrip.jsr (n : BitVec 4) : EncodingRoundTrip.Statement (.jsr n) := fun _ rest =>
  decode_word rest (by simp [isPrefix]) (by simp [decode16, decode16Group4, decode16Group4LowB])

theorem EncodingRoundTrip.rts : EncodingRoundTrip.Statement .rts := fun _ rest =>
  decode_word rest (by simp [isPrefix]) (by simp [decode16, decode16Group0, decode16Group0LowB])

theorem EncodingRoundTrip.brk : EncodingRoundTrip.Statement .brk := fun _ rest =>
  decode_word rest (by simp [isPrefix]) (by simp [decode16, decode16Group0, decode16Group0LowB])

theorem EncodingRoundTrip.clrmac : EncodingRoundTrip.Statement .clrmac := fun _ rest =>
  decode_word rest (by simp [isPrefix]) (by simp [decode16, decode16Group0, decode16Group0Low8])

theorem EncodingRoundTrip.clrs : EncodingRoundTrip.Statement .clrs := fun _ rest =>
  decode_word rest (by simp [isPrefix]) (by simp [decode16, decode16Group0, decode16Group0Low8])

theorem EncodingRoundTrip.clrt : EncodingRoundTrip.Statement .clrt := fun _ rest =>
  decode_word rest (by simp [isPrefix]) (by simp [decode16, decode16Group0, decode16Group0Low8])

theorem EncodingRoundTrip.ldcRmSr (m : BitVec 4) : EncodingRoundTrip.Statement (.ldcRmSr m) := fun _ rest =>
  decode_word rest (by simp [isPrefix]) (by simp [decode16, decode16Group4, decode16Group4LowE, isBank])

theorem EncodingRoundTrip.ldcRmGbr (m : BitVec 4) : EncodingRoundTrip.Statement (.ldcRmGbr m) := fun _ rest =>
  decode_word rest (by simp [isPrefix]) (by simp [decode16, decode16Group4, decode16Group4LowE, isBank])

theorem EncodingRoundTrip.ldcRmVbr (m : BitVec 4) : EncodingRoundTrip.Statement (.ldcRmVbr m) := fun _ rest =>
  decode_word rest (by simp [isPrefix]) (by simp [decode16, decode16Group4, decode16Group4LowE, isBank])

theorem EncodingRoundTrip.ldcRmSsr (m : BitVec 4) : EncodingRoundTrip.Statement (.ldcRmSsr m) := fun _ rest =>
  decode_word rest (by simp [isPrefix]) (by simp [decode16, decode16Group4, decode16Group4LowE, isBank])

theorem EncodingRoundTrip.ldcRmSpc (m : BitVec 4) : EncodingRoundTrip.Statement (.ldcRmSpc m) := fun _ rest =>
  decode_word rest (by simp [isPrefix]) (by simp [decode16, decode16Group4, decode16Group4LowE, isBank])

theorem EncodingRoundTrip.ldcRmBank (m : BitVec 4) (b : BitVec 3) : EncodingRoundTrip.Statement (.ldcRmBank m b) := fun _ rest =>
  decode_word rest (by simp [isPrefix]) (by simp [decode16, decode16Group4, decode16Group4LowE])

theorem EncodingRoundTrip.ldcRmDbr (m : BitVec 4) : EncodingRoundTrip.Statement (.ldcRmDbr m) := fun _ rest =>
  decode_word rest (by simp [isPrefix]) (by simp [decode16, decode16Group4, decode16Group4LowA])

theorem EncodingRoundTrip.ldcLIncRmSr (m : BitVec 4) : EncodingRoundTrip.Statement (.ldcLIncRmSr m) := fun _ rest =>
  decode_word rest (by simp [isPrefix]) (by simp [decode16, decode16Group4, decode16Group4Low7, isBank])

theorem EncodingRoundTrip.ldcLIncRmGbr (m : BitVec 4) : EncodingRoundTrip.Statement (.ldcLIncRmGbr m) := fun _ rest =>
  decode_word rest (by simp [isPrefix]) (by simp [decode16, decode16Group4, decode16Group4Low7, isBank])

theorem EncodingRoundTrip.ldcLIncRmVbr (m : BitVec 4) : EncodingRoundTrip.Statement (.ldcLIncRmVbr m) := fun _ rest =>
  decode_word rest (by simp [isPrefix]) (by simp [decode16, decode16Group4, decode16Group4Low7, isBank])

theorem EncodingRoundTrip.ldcLIncRmSsr (m : BitVec 4) : EncodingRoundTrip.Statement (.ldcLIncRmSsr m) := fun _ rest =>
  decode_word rest (by simp [isPrefix]) (by simp [decode16, decode16Group4, decode16Group4Low7, isBank])

theorem EncodingRoundTrip.ldcLIncRmSpc (m : BitVec 4) : EncodingRoundTrip.Statement (.ldcLIncRmSpc m) := fun _ rest =>
  decode_word rest (by simp [isPrefix]) (by simp [decode16, decode16Group4, decode16Group4Low7, isBank])

theorem EncodingRoundTrip.ldcLIncRmBank (m : BitVec 4) (b : BitVec 3) : EncodingRoundTrip.Statement (.ldcLIncRmBank m b) := fun _ rest =>
  decode_word rest (by simp [isPrefix]) (by simp [decode16, decode16Group4, decode16Group4Low7])

theorem EncodingRoundTrip.ldcLIncRmDbr (m : BitVec 4) : EncodingRoundTrip.Statement (.ldcLIncRmDbr m) := fun _ rest =>
  decode_word rest (by simp [isPrefix]) (by simp [decode16, decode16Group4, decode16Group4Low6])

theorem EncodingRoundTrip.ldsRmMach (m : BitVec 4) : EncodingRoundTrip.Statement (.ldsRmMach m) := fun _ rest =>
  decode_word rest (by simp [isPrefix]) (by simp [decode16, decode16Group4, decode16Group4LowA])

theorem EncodingRoundTrip.ldsRmMacl (m : BitVec 4) : EncodingRoundTrip.Statement (.ldsRmMacl m) := fun _ rest =>
  decode_word rest (by simp [isPrefix]) (by simp [decode16, decode16Group4, decode16Group4LowA])

theorem EncodingRoundTrip.ldsRmPr (m : BitVec 4) : EncodingRoundTrip.Statement (.ldsRmPr m) := fun _ rest =>
  decode_word rest (by simp [isPrefix]) (by simp [decode16, decode16Group4, decode16Group4LowA])

theorem EncodingRoundTrip.ldsRmFpul (m : BitVec 4) : EncodingRoundTrip.Statement (.ldsRmFpul m) := fun _ rest =>
  decode_word rest (by simp [isPrefix]) (by simp [decode16, decode16Group4, decode16Group4LowA])

theorem EncodingRoundTrip.ldsRmFpscr (m : BitVec 4) : EncodingRoundTrip.Statement (.ldsRmFpscr m) := fun _ rest =>
  decode_word rest (by simp [isPrefix]) (by simp [decode16, decode16Group4, decode16Group4LowA])

theorem EncodingRoundTrip.ldsLIncRmMach (m : BitVec 4) : EncodingRoundTrip.Statement (.ldsLIncRmMach m) := fun _ rest =>
  decode_word rest (by simp [isPrefix]) (by simp [decode16, decode16Group4, decode16Group4Low6])

theorem EncodingRoundTrip.ldsLIncRmMacl (m : BitVec 4) : EncodingRoundTrip.Statement (.ldsLIncRmMacl m) := fun _ rest =>
  decode_word rest (by simp [isPrefix]) (by simp [decode16, decode16Group4, decode16Group4Low6])

theorem EncodingRoundTrip.ldsLIncRmPr (m : BitVec 4) : EncodingRoundTrip.Statement (.ldsLIncRmPr m) := fun _ rest =>
  decode_word rest (by simp [isPrefix]) (by simp [decode16, decode16Group4, decode16Group4Low6])

theorem EncodingRoundTrip.ldsLIncRmFpul (m : BitVec 4) : EncodingRoundTrip.Statement (.ldsLIncRmFpul m) := fun _ rest =>
  decode_word rest (by simp [isPrefix]) (by simp [decode16, decode16Group4, decode16Group4Low6])

theorem EncodingRoundTrip.ldsLIncRmFpscr (m : BitVec 4) : EncodingRoundTrip.Statement (.ldsLIncRmFpscr m) := fun _ rest =>
  decode_word rest (by simp [isPrefix]) (by simp [decode16, decode16Group4, decode16Group4Low6])

theorem EncodingRoundTrip.ldtlb : EncodingRoundTrip.Statement .ldtlb := fun _ rest =>
  decode_word rest (by simp [isPrefix]) (by simp [decode16, decode16Group0, decode16Group0Low8])

theorem EncodingRoundTrip.nop : EncodingRoundTrip.Statement .nop := fun _ rest =>
  decode_word rest (by simp [isPrefix]) (by simp [decode16, decode16Group0, decode16Group0Low9])

theorem EncodingRoundTrip.nopImm (imm : BitVec 4) : EncodingRoundTrip.Statement (.nopImm imm) := fun h rest =>
  decode_word rest (by simp [isPrefix]) (by
    simp [Instr.wellFormed] at h
    simp [decode16, decode16Group0, decode16Group0Low9, h.1, h.2])

theorem EncodingRoundTrip.rte : EncodingRoundTrip.Statement .rte := fun _ rest =>
  decode_word rest (by simp [isPrefix]) (by simp [decode16, decode16Group0, decode16Group0LowB])

theorem EncodingRoundTrip.sets : EncodingRoundTrip.Statement .sets := fun _ rest =>
  decode_word rest (by simp [isPrefix]) (by simp [decode16, decode16Group0, decode16Group0Low8])

theorem EncodingRoundTrip.sett : EncodingRoundTrip.Statement .sett := fun _ rest =>
  decode_word rest (by simp [isPrefix]) (by simp [decode16, decode16Group0, decode16Group0Low8])

theorem EncodingRoundTrip.sleep : EncodingRoundTrip.Statement .sleep := fun _ rest =>
  decode_word rest (by simp [isPrefix]) (by simp [decode16, decode16Group0, decode16Group0LowB])

theorem EncodingRoundTrip.stcSrRn (n : BitVec 4) : EncodingRoundTrip.Statement (.stcSrRn n) := fun _ rest =>
  decode_word rest (by simp [isPrefix]) (by simp [decode16, decode16Group0, decode16Group0Low2, isBank])

theorem EncodingRoundTrip.stcGbrRn (n : BitVec 4) : EncodingRoundTrip.Statement (.stcGbrRn n) := fun _ rest =>
  decode_word rest (by simp [isPrefix]) (by simp [decode16, decode16Group0, decode16Group0Low2, isBank])

theorem EncodingRoundTrip.stcVbrRn (n : BitVec 4) : EncodingRoundTrip.Statement (.stcVbrRn n) := fun _ rest =>
  decode_word rest (by simp [isPrefix]) (by simp [decode16, decode16Group0, decode16Group0Low2, isBank])

theorem EncodingRoundTrip.stcSsrRn (n : BitVec 4) : EncodingRoundTrip.Statement (.stcSsrRn n) := fun _ rest =>
  decode_word rest (by simp [isPrefix]) (by simp [decode16, decode16Group0, decode16Group0Low2, isBank])

theorem EncodingRoundTrip.stcSpcRn (n : BitVec 4) : EncodingRoundTrip.Statement (.stcSpcRn n) := fun _ rest =>
  decode_word rest (by simp [isPrefix]) (by simp [decode16, decode16Group0, decode16Group0Low2, isBank])

theorem EncodingRoundTrip.stcDbrRn (n : BitVec 4) : EncodingRoundTrip.Statement (.stcDbrRn n) := fun _ rest =>
  decode_word rest (by simp [isPrefix]) (by simp [decode16, decode16Group0, decode16Group0LowA])

theorem EncodingRoundTrip.stcBankRn (b : BitVec 3) (n : BitVec 4) : EncodingRoundTrip.Statement (.stcBankRn b n) := fun _ rest =>
  decode_word rest (by simp [isPrefix]) (by simp [decode16, decode16Group0, decode16Group0Low2])

theorem EncodingRoundTrip.stcLSrDecRn (n : BitVec 4) : EncodingRoundTrip.Statement (.stcLSrDecRn n) := fun _ rest =>
  decode_word rest (by simp [isPrefix]) (by simp [decode16, decode16Group4, decode16Group4Low3, isBank])

theorem EncodingRoundTrip.stcLGbrDecRn (n : BitVec 4) : EncodingRoundTrip.Statement (.stcLGbrDecRn n) := fun _ rest =>
  decode_word rest (by simp [isPrefix]) (by simp [decode16, decode16Group4, decode16Group4Low3, isBank])

theorem EncodingRoundTrip.stcLVbrDecRn (n : BitVec 4) : EncodingRoundTrip.Statement (.stcLVbrDecRn n) := fun _ rest =>
  decode_word rest (by simp [isPrefix]) (by simp [decode16, decode16Group4, decode16Group4Low3, isBank])

theorem EncodingRoundTrip.stcLSsrDecRn (n : BitVec 4) : EncodingRoundTrip.Statement (.stcLSsrDecRn n) := fun _ rest =>
  decode_word rest (by simp [isPrefix]) (by simp [decode16, decode16Group4, decode16Group4Low3, isBank])

theorem EncodingRoundTrip.stcLSpcDecRn (n : BitVec 4) : EncodingRoundTrip.Statement (.stcLSpcDecRn n) := fun _ rest =>
  decode_word rest (by simp [isPrefix]) (by simp [decode16, decode16Group4, decode16Group4Low3, isBank])

theorem EncodingRoundTrip.stcLDbrDecRn (n : BitVec 4) : EncodingRoundTrip.Statement (.stcLDbrDecRn n) := fun _ rest =>
  decode_word rest (by simp [isPrefix]) (by simp [decode16, decode16Group4, decode16Group4Low2])

theorem EncodingRoundTrip.stcLBankDecRn (b : BitVec 3) (n : BitVec 4) : EncodingRoundTrip.Statement (.stcLBankDecRn b n) := fun _ rest =>
  decode_word rest (by simp [isPrefix]) (by simp [decode16, decode16Group4, decode16Group4Low3])

theorem EncodingRoundTrip.stsMachRn (n : BitVec 4) : EncodingRoundTrip.Statement (.stsMachRn n) := fun _ rest =>
  decode_word rest (by simp [isPrefix]) (by simp [decode16, decode16Group0, decode16Group0LowA])

theorem EncodingRoundTrip.stsMaclRn (n : BitVec 4) : EncodingRoundTrip.Statement (.stsMaclRn n) := fun _ rest =>
  decode_word rest (by simp [isPrefix]) (by simp [decode16, decode16Group0, decode16Group0LowA])

theorem EncodingRoundTrip.stsPrRn (n : BitVec 4) : EncodingRoundTrip.Statement (.stsPrRn n) := fun _ rest =>
  decode_word rest (by simp [isPrefix]) (by simp [decode16, decode16Group0, decode16Group0LowA])

theorem EncodingRoundTrip.stsFpulRn (n : BitVec 4) : EncodingRoundTrip.Statement (.stsFpulRn n) := fun _ rest =>
  decode_word rest (by simp [isPrefix]) (by simp [decode16, decode16Group0, decode16Group0LowA])

theorem EncodingRoundTrip.stsFpscrRn (n : BitVec 4) : EncodingRoundTrip.Statement (.stsFpscrRn n) := fun _ rest =>
  decode_word rest (by simp [isPrefix]) (by simp [decode16, decode16Group0, decode16Group0LowA])

theorem EncodingRoundTrip.stsLMachDecRn (n : BitVec 4) : EncodingRoundTrip.Statement (.stsLMachDecRn n) := fun _ rest =>
  decode_word rest (by simp [isPrefix]) (by simp [decode16, decode16Group4, decode16Group4Low2])

theorem EncodingRoundTrip.stsLMaclDecRn (n : BitVec 4) : EncodingRoundTrip.Statement (.stsLMaclDecRn n) := fun _ rest =>
  decode_word rest (by simp [isPrefix]) (by simp [decode16, decode16Group4, decode16Group4Low2])

theorem EncodingRoundTrip.stsLPrDecRn (n : BitVec 4) : EncodingRoundTrip.Statement (.stsLPrDecRn n) := fun _ rest =>
  decode_word rest (by simp [isPrefix]) (by simp [decode16, decode16Group4, decode16Group4Low2])

theorem EncodingRoundTrip.stsLFpulDecRn (n : BitVec 4) : EncodingRoundTrip.Statement (.stsLFpulDecRn n) := fun _ rest =>
  decode_word rest (by simp [isPrefix]) (by simp [decode16, decode16Group4, decode16Group4Low2])

theorem EncodingRoundTrip.stsLFpscrDecRn (n : BitVec 4) : EncodingRoundTrip.Statement (.stsLFpscrDecRn n) := fun _ rest =>
  decode_word rest (by simp [isPrefix]) (by simp [decode16, decode16Group4, decode16Group4Low2])

theorem EncodingRoundTrip.trapa (imm : BitVec 8) : EncodingRoundTrip.Statement (.trapa imm) := fun _ rest =>
  decode_word rest (by simp [isPrefix]) (by simp [decode16, decode16GroupC])

theorem EncodingRoundTrip.fabs (n : BitVec 4) : EncodingRoundTrip.Statement (.fabs n) := fun _ rest =>
  decode_word rest (by simp [isPrefix]) (by simp [decode16, decode16GroupF, decode16GroupFLowD])

theorem EncodingRoundTrip.fadd (m : BitVec 4) (n : BitVec 4) : EncodingRoundTrip.Statement (.fadd m n) := fun _ rest =>
  decode_word rest (by simp [isPrefix]) (by simp [decode16, decode16GroupF])

theorem EncodingRoundTrip.fcmpeq (m : BitVec 4) (n : BitVec 4) : EncodingRoundTrip.Statement (.fcmpeq m n) := fun _ rest =>
  decode_word rest (by simp [isPrefix]) (by simp [decode16, decode16GroupF])

theorem EncodingRoundTrip.fcmpgt (m : BitVec 4) (n : BitVec 4) : EncodingRoundTrip.Statement (.fcmpgt m n) := fun _ rest =>
  decode_word rest (by simp [isPrefix]) (by simp [decode16, decode16GroupF])

theorem EncodingRoundTrip.fcnvds (m : BitVec 4) : EncodingRoundTrip.Statement (.fcnvds m) := fun _ rest =>
  decode_word rest (by simp [isPrefix]) (by simp [decode16, decode16GroupF, decode16GroupFLowD])

theorem EncodingRoundTrip.fcnvsd (n : BitVec 4) : EncodingRoundTrip.Statement (.fcnvsd n) := fun _ rest =>
  decode_word rest (by simp [isPrefix]) (by simp [decode16, decode16GroupF, decode16GroupFLowD])

theorem EncodingRoundTrip.fdiv (m : BitVec 4) (n : BitVec 4) : EncodingRoundTrip.Statement (.fdiv m n) := fun _ rest =>
  decode_word rest (by simp [isPrefix]) (by simp [decode16, decode16GroupF])

theorem EncodingRoundTrip.fipr (vm : BitVec 2) (vn : BitVec 2) : EncodingRoundTrip.Statement (.fipr vm vn) := fun _ rest =>
  decode_word rest (by simp [isPrefix]) (by simp [decode16, decode16GroupF, decode16GroupFLowD])

theorem EncodingRoundTrip.fldi0 (n : BitVec 4) : EncodingRoundTrip.Statement (.fldi0 n) := fun _ rest =>
  decode_word rest (by simp [isPrefix]) (by simp [decode16, decode16GroupF, decode16GroupFLowD])

theorem EncodingRoundTrip.fldi1 (n : BitVec 4) : EncodingRoundTrip.Statement (.fldi1 n) := fun _ rest =>
  decode_word rest (by simp [isPrefix]) (by simp [decode16, decode16GroupF, decode16GroupFLowD])

theorem EncodingRoundTrip.flds (m : BitVec 4) : EncodingRoundTrip.Statement (.flds m) := fun _ rest =>
  decode_word rest (by simp [isPrefix]) (by simp [decode16, decode16GroupF, decode16GroupFLowD])

theorem EncodingRoundTrip.float (n : BitVec 4) : EncodingRoundTrip.Statement (.float n) := fun _ rest =>
  decode_word rest (by simp [isPrefix]) (by simp [decode16, decode16GroupF, decode16GroupFLowD])

theorem EncodingRoundTrip.fmac (m : BitVec 4) (n : BitVec 4) : EncodingRoundTrip.Statement (.fmac m n) := fun _ rest =>
  decode_word rest (by simp [isPrefix]) (by simp [decode16, decode16GroupF])

theorem EncodingRoundTrip.fmov (m : BitVec 4) (n : BitVec 4) : EncodingRoundTrip.Statement (.fmov m n) := fun _ rest =>
  decode_word rest (by simp [isPrefix]) (by simp [decode16, decode16GroupF])

theorem EncodingRoundTrip.fmovSAtR0RmFrn (m : BitVec 4) (n : BitVec 4) : EncodingRoundTrip.Statement (.fmovSAtR0RmFrn m n) := fun _ rest =>
  decode_word rest (by simp [isPrefix]) (by simp [decode16, decode16GroupF])

theorem EncodingRoundTrip.fmovSFrmAtR0Rn (m : BitVec 4) (n : BitVec 4) : EncodingRoundTrip.Statement (.fmovSFrmAtR0Rn m n) := fun _ rest =>
  decode_word rest (by simp [isPrefix]) (by simp [decode16, decode16GroupF])

theorem EncodingRoundTrip.fmovSAtRmFrn (m : BitVec 4) (n : BitVec 4) : EncodingRoundTrip.Statement (.fmovSAtRmFrn m n) := fun _ rest =>
  decode_word rest (by simp [isPrefix]) (by simp [decode16, decode16GroupF])

theorem EncodingRoundTrip.fmovSIncRmFrn (m : BitVec 4) (n : BitVec 4) : EncodingRoundTrip.Statement (.fmovSIncRmFrn m n) := fun _ rest =>
  decode_word rest (by simp [isPrefix]) (by simp [decode16, decode16GroupF])

theorem EncodingRoundTrip.fmovSFrmAtRn (m : BitVec 4) (n : BitVec 4) : EncodingRoundTrip.Statement (.fmovSFrmAtRn m n) := fun _ rest =>
  decode_word rest (by simp [isPrefix]) (by simp [decode16, decode16GroupF])

theorem EncodingRoundTrip.fmovSFrmDecRn (m : BitVec 4) (n : BitVec 4) : EncodingRoundTrip.Statement (.fmovSFrmDecRn m n) := fun _ rest =>
  decode_word rest (by simp [isPrefix]) (by simp [decode16, decode16GroupF])

theorem EncodingRoundTrip.fmul (m : BitVec 4) (n : BitVec 4) : EncodingRoundTrip.Statement (.fmul m n) := fun _ rest =>
  decode_word rest (by simp [isPrefix]) (by simp [decode16, decode16GroupF])

theorem EncodingRoundTrip.fneg (n : BitVec 4) : EncodingRoundTrip.Statement (.fneg n) := fun _ rest =>
  decode_word rest (by simp [isPrefix]) (by simp [decode16, decode16GroupF, decode16GroupFLowD])

theorem EncodingRoundTrip.fsqrt (n : BitVec 4) : EncodingRoundTrip.Statement (.fsqrt n) := fun _ rest =>
  decode_word rest (by simp [isPrefix]) (by simp [decode16, decode16GroupF, decode16GroupFLowD])

theorem EncodingRoundTrip.fsub (m : BitVec 4) (n : BitVec 4) : EncodingRoundTrip.Statement (.fsub m n) := fun _ rest =>
  decode_word rest (by simp [isPrefix]) (by simp [decode16, decode16GroupF])

theorem EncodingRoundTrip.psetmd4 (imm : BitVec 4) : EncodingRoundTrip.Statement (.psetmd4 imm) := fun _ rest =>
  decode_word rest (by simp [isPrefix]) (by simp [decode16, decode16GroupF, decode16GroupFLowD])

theorem EncodingRoundTrip.ftrc (m : BitVec 4) : EncodingRoundTrip.Statement (.ftrc m) := fun _ rest =>
  decode_word rest (by simp [isPrefix]) (by simp [decode16, decode16GroupF, decode16GroupFLowD])

theorem EncodingRoundTrip.ldhf16RmFpul (m : BitVec 4) : EncodingRoundTrip.Statement (.ldhf16RmFpul m) := fun _ rest =>
  decode_word rest (by simp [isPrefix]) (by simp [decode16, decode16Group4, decode16Group4Low1])

theorem EncodingRoundTrip.ldhf16Imm16Fpul (imm : BitVec 16) : EncodingRoundTrip.Statement (.ldhf16Imm16Fpul imm) := fun _ rest =>
  decode_pair8E rest (by simp [decode8E, decode8EGroup8])

theorem EncodingRoundTrip.ldif16 (imm : BitVec 16) : EncodingRoundTrip.Statement (.ldif16 imm) := fun _ rest =>
  decode_pair8E rest (by simp [decode8E, decode8EGroup8])

theorem EncodingRoundTrip.sthf16 (n : BitVec 4) : EncodingRoundTrip.Statement (.sthf16 n) := fun _ rest =>
  decode_word rest (by simp [isPrefix]) (by simp [decode16, decode16Group4, decode16Group4Low1])

end Sys2Proof.Laws
end

