-- ==== Sys2Proof/Safety.lean ====
section
/-!
DEFINITION. Sys2Proof/Safety.lean: what a launch and a state must satisfy for the rules of the spec to give the machine a
meaning, and the terms the statements use: the parts of the state, a frame, and a completed instruction.
-/
namespace Sys2Proof.Machine

/-- A launch the spec admits (00_scope.md R4): the masks hold the named SR fields (93_implementation_defined.md U17),
trap entry changes none of them (60_exceptions.md R434), a declared VE bit is none of the named FPSCR fields, RESET_PC is
even and RESET_SR has JQ (70_reset_and_hazards.md R471), an address has from 1 to 64 significant bits (20_memory.md R60), and the
alignments and the shift width are not zero. -/
def Launch.wf (l : Launch) : Bool :=
  decide (l.srWriteMask &&& 0x80001303#32 = 0x80001303#32) && decide (l.srReadMask &&& 0x80001303#32 = 0x80001303#32) &&
  decide (l.srEntrySet &&& 0x80001303#32 = 0#32) &&
  (match l.fpscrVeBit with
    | some i => decide (i < 32) && decide (i ≠ 0) && decide (i ≠ 1) && decide (i ≠ Config.fpscrPr) &&
      decide (i ≠ Config.fpscrSz) && decide (i ≠ Config.fpscrFr)
    | none => true) &&
  decide (0 < l.vaBits) && decide (l.vaBits ≤ 64) && !l.resetPc.getLsbD 0 && jqOf l.resetSr &&
  decide (0 < l.alignB) && decide (0 < l.alignW) && decide (0 < l.alignL) && decide (0 < l.alignQ) &&
  decide (0 < l.shiftWidthDq0)

/-- The states the spec gives a meaning to: the launch is admitted, memory has its canonical form, SR.JQ is 1
(92_eei_decisions.md D2), and FPSCR sets neither FR nor a declared VE bit (46_fpu.md R370). -/
structure State.Inv (s : State) : Prop where
  launch : s.launch.wf = true
  memory : memWf s.mem = true
  mode : jqOf s.sr = true
  fpscr : fpscrBad s.launch s.fpscr = false

/-- The program goes on from this state: it is not sleeping and BRK has not ended the run (60_exceptions.md R437). -/
def State.running (s : State) : Bool := !s.sleeping && !s.runEnded

/-! ## Frames -/

/-- The parts of the state a frame speaks of: all of it but PC and the delayed branch, which `GoesOn` states. -/
inductive Part where
  | reg (r : BitVec 5)
  | bank (b : BitVec 3)
  | srBit (i : Nat)
  | gbr | vbr | ssr | spc | sgr | dbr | mach | macl | pr | fpul | fpscr
  | fr (r : Nibble)
  | xf (r : Nibble)
  | byte (a : Nat)
  | sleeping | records | runEnded | freeIndex | launch
  deriving DecidableEq, Repr

/-- The part is the same in both states; a byte of memory is what a read of it gives. -/
def Part.same (s t : State) : Part → Prop
  | .reg r => t.reg r = s.reg r
  | .bank b => t.bankReg b = s.bankReg b
  | .srBit i => t.sr.getLsbD i = s.sr.getLsbD i
  | .gbr => t.gbr = s.gbr
  | .vbr => t.vbr = s.vbr
  | .ssr => t.ssr = s.ssr
  | .spc => t.spc = s.spc
  | .sgr => t.sgr = s.sgr
  | .dbr => t.dbr = s.dbr
  | .mach => t.mach = s.mach
  | .macl => t.macl = s.macl
  | .pr => t.pr = s.pr
  | .fpul => t.fpul = s.fpul
  | .fpscr => t.fpscr = s.fpscr
  | .fr r => t.frReg r = s.frReg r
  | .xf r => t.xf[r.toNat]'r.isLt = s.xf[r.toNat]'r.isLt
  | .byte a => memGet t.mem a = memGet s.mem a
  | .sleeping => t.sleeping = s.sleeping
  | .records => t.records = s.records
  | .runEnded => t.runEnded = s.runEnded
  | .freeIndex => t.freeIndex = s.freeIndex
  | .launch => t.launch = s.launch

/-- Every part but those of the list is the same. -/
def State.KeepsBut (s t : State) (changed : List Part) : Prop := ∀ p, p ∉ changed → p.same s t

/-- SR.T, SR.S, SR.Q and SR.M as parts. -/
def Part.t : Part := .srBit Config.srT
def Part.s : Part := .srBit Config.srS
def Part.q : Part := .srBit Config.srQ
def Part.m : Part := .srBit Config.srM
/-- All of SR. -/
def Part.allSr : List Part := (List.range 32).map .srBit
/-- The bytes an access of `n` bytes at `a` touches. -/
def State.bytesAt (s : State) (a : QWord) (n : Nat) : List Part :=
  (List.range n).map fun i => .byte (s.launch.locate a + i)
/-- The halves of a pair of floating-point registers (46_fpu.md R371). -/
def Part.pair (r : Nibble) : List Part :=
  if r.getLsbD 0 then [.xf (pairHigh r), .xf (pairLow r)] else [.fr (pairHigh r), .fr (pairLow r)]

/-! ## Completion -/

/-- Where the instruction after this one is: the delayed branch's target when this one stands in its slot, else the
following address (44_int_branch.md R300, 10_state.md R23). -/
def State.following (s : State) (l : Len) : QWord :=
  match s.pending with
  | some p => p.target
  | none => s.pc + BitVec.ofNat 64 l.bytes

/-- The machine goes on after an instruction of this length that does not branch. -/
def State.GoesOn (s : State) (l : Len) (t : State) : Prop := t.pc = s.following l ∧ t.pending = none

/-- The instruction answers a next state, of which `P` holds, with no part changed but those of the list, and the machine
goes on after it. -/
def Runs (l : Len) (i : Instr) (s : State) (changed : List Part) (P : State → Prop) : Prop :=
  ∃ t, exec i s = .next t ∧ P t ∧ s.KeepsBut t changed ∧ s.GoesOn l t

/-- The same of a form that no delay slot admits: a 32-bit form, or one with a PC operand (44_int_branch.md R300). -/
def RunsOutside (l : Len) (i : Instr) (s : State) (changed : List Part) (P : State → Prop) : Prop :=
  s.pending = none → Runs l i s changed P

/-- A value written at width `W` whose exact result is the integer `x`: `x` cut to `W` bits and sign-extended
(00_scope.md R7). -/
def Wraps (W : Nat) (x : Int) (v : QWord) : Prop := v.toInt = x.bmod (2 ^ W)

/-- A value written at width `W` whose bit `i` is `f i` for `i < W`, bit `W - 1` repeated above (00_scope.md R7). -/
def BitsAt (W : Nat) (f : Nat → Bool) (v : QWord) : Prop := ∀ i < 64, v.getLsbD i = f (min i (W - 1))

/-- `signed_W` of 00_scope.md R6: the low W bits as a signed integer. -/
def signedLow (W : Nat) (v : QWord) : Int := v.toInt.bmod (2 ^ W)
/-- The low W bits as an unsigned integer. -/
def unsignedLow (W : Nat) (v : QWord) : Nat := v.toNat % 2 ^ W

/-- A load of `n` bytes at `a` that nothing stops gives `v`: the address is aligned, every byte is backed
(20_memory.md R63, R67) and holds a value, and `v` is their little-endian value. -/
def State.Loads (s : State) (a : QWord) (n v : Nat) : Prop :=
  s.accessOk .read a n = true ∧ memRead s.mem (s.launch.locate a) n = some v

/-- A store of `n` bytes at `a` that nothing stops (20_memory.md R63, R67). -/
def State.Stores (s : State) (a : QWord) (n : Nat) : Prop := s.accessOk .write a n = true

/-- The `n` bytes from `a` on hold the low `n` bytes of `v`, little endian (20_memory.md R62). -/
def State.Holds (t : State) (a : QWord) (n : Nat) (v : Nat) : Prop :=
  ∀ k < n, memGet t.mem (t.launch.locate a + k) = some (BitVec.ofNat 8 (v / 256 ^ k))

/-- A load: where nothing stops the access the instruction runs and `P` holds of the value loaded and the next state; where
`check` refuses the address, AddressError is raised (20_memory.md R64, R67). -/
def RunsLoad (l : Len) (i : Instr) (s : State) (ea : QWord) (n : Nat) (changed : List Part)
    (P : Nat → State → Prop) : Prop :=
  (∀ v, s.Loads ea n v → Runs l i s changed (P v)) ∧
    (s.accessOk .read ea n = false → exec i s = raise (.addressError ea .read) s)

/-- A store of the low bytes of `v`: where nothing stops the access the instruction runs, the bytes hold the value, no byte
outside them changes, and `P` holds; where `check` refuses the address, AddressError is raised (20_memory.md R64, R67). -/
def RunsStore (l : Len) (i : Instr) (s : State) (ea : QWord) (n v : Nat) (changed : List Part)
    (P : State → Prop) : Prop :=
  (s.Stores ea n → Runs l i s (changed ++ s.bytesAt ea n) fun t => t.Holds ea n v ∧ P t) ∧
    (s.accessOk .write ea n = false → exec i s = raise (.addressError ea .write) s)

/-- A branch with no delay slot, to a target of which `T` holds. -/
def Jumps (i : Instr) (s : State) (changed : List Part) (P : State → Prop) (T : QWord → Prop) : Prop :=
  s.pending = none →
    ∃ t, exec i s = .next t ∧ T t.pc ∧ t.pending = none ∧ P t ∧ s.KeepsBut t changed

/-- A delayed branch, to a target of which `T` holds: the slot comes next (44_int_branch.md R300). -/
def Delays (l : Len) (i : Instr) (s : State) (changed : List Part) (P : State → Prop) (T : QWord → Prop) : Prop :=
  s.pending = none →
    ∃ t target, exec i s = .next t ∧ T target ∧ t.pending = some ⟨target, s.pc⟩ ∧
      t.pc = s.pc + BitVec.ofNat 64 l.bytes ∧ P t ∧ s.KeepsBut t changed

/-- The words decode to the instruction, whatever follows them. -/
def Decodes (ws : List Word) (i : Instr) : Prop := ∀ rest, decode (wordsBytes ws ++ rest) = .instr i rest

/-- `out` of 42_int_shift.md R220 for an input `x` read as an integer, an amount and a width. -/
def shifted (x amount : Int) (width : Nat) : Int :=
  if 0 ≤ amount then x * 2 ^ (amount % width).toNat
  else if (amount % width).toNat ≠ 0 then x / 2 ^ (width - (amount % width).toNat)
  else if x < 0 then -1 else 0

/-- `h` is a half of the Single `f` as 46_fpu.md R397 states: the fraction is rounded to 10 bits (the result is less than one
unit of the half from `f`, under its sign), an exponent too large gives the infinity of that sign, one too small 0.0; with
`nearest`, which the default numerics have, the rounding is to nearest even and 0.0 is positive. `e` is the exponent field
of `f`, `x` the magnitude in units of 2^-13 of the half's, `q` the half without its sign. -/
def PacksHalf (nearest : Bool) (f : DWord) (h : Word) : Prop :=
  let e := (f.extractLsb' 23 8).toNat
  let x : Int := ((f.extractLsb' 0 31).toNat : Int) - 112 * 2 ^ 23
  let q := (h.extractLsb' 0 15).toNat
  (143 ≤ e → q = 0x7C00 ∧ h.msb = f.msb) ∧
  (113 ≤ e → e ≤ 142 → h.msb = f.msb ∧ |(q : Int) * 2 ^ 13 - x| < 2 ^ 13 ∧
    (nearest = true → 2 * |(q : Int) * 2 ^ 13 - x| ≤ 2 ^ 13 ∧ (2 * |(q : Int) * 2 ^ 13 - x| = 2 ^ 13 → q % 2 = 0))) ∧
  (e = 112 → q = 0 ∨ (q = 0x400 ∧ h.msb = f.msb ∧ 2 ^ 23 - 2 ^ 13 < x)) ∧
  (e ≤ 111 → q = 0) ∧
  (nearest = true → e ≤ 112 → (q = 0x400 ↔ 2 ^ 23 - 2 ^ 12 ≤ x) ∧ (q = 0 → h = 0#16))

/-- The FPU is present (46_fpu.md R370). -/
def State.FpuPresent (s : State) : Prop := s.launch.fpuProfile ≠ .none

end Sys2Proof.Machine

/-! ## The instructions that write SR (10_state.md R25 to R29) -/
namespace Sys2Proof

/-- The instructions 10_state.md R25 lists as writing SR.T. -/
def Instr.writesT : Instr → Bool
  | .addcRmRn _ _ | .addcRmRnCe _ _ _ | .addv _ _ _ | .cmpEqRmRn _ _ | .cmpEqRmRnCe _ _ _ | .cmpEqImm8sR0 _
  | .cmpEqImm12sRn _ _ | .cmpEqImm10sRn _ _ _ | .cmpGeImm12sRn _ _ | .cmpGeImm10sRn _ _ _ | .cmpGeRmRn _ _ _
  | .cmpGtRmRn _ _ | .cmpGtImm12sRn _ _ | .cmpGtImm10sRn _ _ _ | .cmpGtRmRnCe _ _ _ | .cmpHiRmRn _ _
  | .cmpHiImm12sRn _ _ | .cmpHiRmRnCe _ _ _ | .cmpHiImm10sRn _ _ _ | .cmpHsImm12sRn _ _ | .cmpHsRmRn _ _ _
  | .cmpHsImm10sRn _ _ _ | .cmpPl _ | .cmpPz _ | .div0s | .div0u | .div1 | .dt _ | .negcRmRn _ _
  | .negcRmRnCe _ _ _ | .subc _ _ | .subv _ _ _ | .tstRmRn _ _ | .tstRmRnCe _ _ _ | .tstImm8R0 _
  | .tstImm12sRn _ _ | .tstImm10sRn _ _ _ | .rotcl _ | .rotcr _ | .rotl _ | .rotr _ | .shal _ | .sharRn _
  | .shll _ | .shlrRn _ | .casL | .clrt | .rte | .sett | .fcmpeq _ _ | .fcmpgt _ _ | .ldcRmSr _
  | .ldcLIncRmSr _ => true
  | _ => false

/-- The instructions that write all of SR (10_state.md R25, 45_int_system.md R340). -/
def Instr.writesSr : Instr → Bool
  | .ldcRmSr _ | .ldcLIncRmSr _ | .rte => true
  | _ => false

end Sys2Proof
end

