-- ==== Sys2Proof/Certificates/Slice0/Obligations.lean ====
section
/-!
DEFINITION. Sys2Proof/Certificates/Slice0/Obligations.lean: the statements for the provers. Runs, RunsOutside, RunsLoad,
RunsStore, Jumps, Delays, Wraps, BitsAt and the frame they carry are defined in Sys2Proof/Safety.lean. A statement with
basis derived rests on a decision the spec marks as its own, which its docstring names with the log entry.
-/
open Sys2Proof Sys2Proof.Machine

/-- For every well-formed instruction, with every operand at every value the encoding admits, and any bytes after it,
the decoder reads the bytes of its encoding as that instruction and leaves what follows. The bit orders inside the
e, f and q nibbles are the decision D9, log 10. -/
def Obligations.DecodeReadsEncoding : Prop :=
  ∀ i : Instr, Laws.EncodingRoundTrip.Statement i

/-- If the decoder reads an instruction from bytes, the instruction is well formed and the bytes are its encoding
followed by what the decoder left: no bit of a word is ignored, so a word with a reserved bit set, or an operand out
of range, is refused. That reserved bits must be 0 is the decision D38, log 10. -/
def Obligations.EncodingReadsDecode : Prop :=
  ∀ (bytes rest : List Byte) (i : Instr), decode bytes = .instr i rest →
    i.wellFormed = true ∧ bytes = encodeBytes i ++ rest

/-- Ten 16-bit words and six 32-bit values that the Example lines of the rules spell out, over every family, decode to
the instruction the line names. -/
def Obligations.ExampleWordsDecode : Prop :=
  Decodes [0x312C#16] (.addRmRn 0x2#4 0x1#4) ∧
    Decodes [0x73FF#16] (.addImm8sRn 0xFF#8 0x3#4) ∧
    Decodes [0x412F#16] (.movRmRn 0x2#4 0x1#4) ∧
    Decodes [0x4114#16] (.rot32 0x1#4) ∧
    Decodes [0x6123#16] (.movQAtRmRn 0x2#4 0x1#4) ∧
    Decodes [0xB010#16] (.bsr 0x010#12) ∧
    Decodes [0x002B#16] .rte ∧
    Decodes [0xC320#16] (.trapa 0x20#8) ∧
    Decodes [0x419E#16] (.ldcRmBank 0x1#4 1#3) ∧
    Decodes [0xF12C#16] (.fmov 0x2#4 0x1#4) ∧
    Decodes [0x8E12#16, 0x7534#16] (.addImm16sRn 0x1234#16 0x5#4) ∧
    Decodes [0xCEEC#16, 0x341F#16] (.addRmRnCe true 17#5 20#5) ∧
    Decodes [0xCE61#16, 0x334C#16] (.addRmImm6Rn 20#5 33#6 3#5) ∧
    Decodes [0xCE02#16, 0xA310#16] (.addRmRoRn false 1#5 2#5 3#5) ∧
    Decodes [0x8E3F#16, 0x8C80#16] (.ldif16 0x3F80#16) ∧
    Decodes [0x8EFF#16, 0x8BFD#16] (.bfLabel16s 0xFFFD#16)

/-- In a state that has not ended, is not asleep and has SR.JQ = 1, when the encoding of a well-formed instruction lies
at PC in memory that a fetch may touch, one step is that instruction executed in that state, and nothing is added
around it. -/
def Obligations.StepRunsDecodedInstruction : Prop :=
  ∀ (s : State) (i : Instr), i.wellFormed = true → s.runEnded = false → s.sleeping = false → jqOf s.sr = true →
    s.fetchOk s.pc = true →
    ((encode i).length = 2 → s.fetchOk (s.pc + 2#64) = true) →
    (∀ k < (encodeBytes i).length,
      memGet s.mem (s.launch.locate (s.pc + BitVec.ofNat 64 k)) = (encodeBytes i)[k]?) →
    step s = exec i s

/-- At a state that runs: if the two bytes at PC are not fetchable the step raises AddressError(PC, fetch); if they are
and the word they hold has 8E or CE in its high byte, the second word is fetched at PC + 2, and if that is not
fetchable the step raises AddressError(PC + 2, fetch), else the decoder is given both words; any other first word is
decoded alone. An odd address is not fetchable. What is fetchable (even, within the address space, backed by
MEM_MAP) rests on the decisions D19 and D28 (log 19, log 4) and on VA_BITS (D3, log 7); that the failing address is
PC + 2 and PC stays is deduced (log 48). -/
def Obligations.FetchFollowsTheFirstWord : Prop :=
  ∀ s : State, s.runEnded = false → s.sleeping = false → jqOf s.sr = true →
    (∀ a : QWord, s.fetchOk a = true ↔
      a.toNat % 2 = 0 ∧ s.launch.locate a + 2 ≤ s.launch.space ∧ ∀ k < 2, ∃ r ∈ s.launch.memMap,
        r.base ≤ s.launch.locate a + k ∧ s.launch.locate a + k < r.base + r.size) ∧
    (s.fetchOk s.pc = false → step s = raiseFetch s.pc s) ∧
    (∀ w1 : Word, s.fetchOk s.pc = true → memRead s.mem (s.launch.locate s.pc) 2 = some w1.toNat →
      (w1.extractLsb' 8 8 ≠ 0x8E#8 ∧ w1.extractLsb' 8 8 ≠ 0xCE#8 → step s = runDecoded s (decode (wordsBytes [w1]))) ∧
      (w1.extractLsb' 8 8 = 0x8E#8 ∨ w1.extractLsb' 8 8 = 0xCE#8 →
        (s.fetchOk (s.pc + 2#64) = false → step s = raiseFetch (s.pc + 2#64) s) ∧
        (∀ w2 : Word, s.fetchOk (s.pc + 2#64) = true →
          memRead s.mem (s.launch.locate (s.pc + 2#64)) 2 = some w2.toNat →
          step s = runDecoded s (decode (wordsBytes [w1, w2])))))

/-- When the decoder refuses the bytes, running them takes the exception IllegalInstruction if the instruction is in no
delay slot and SlotIllegalInstruction if it is in one. That an unlisted encoding traps is the decision D33 the spec
marks as its own, log 11. The words 0F09, 3012 and 6018 are among those refused. -/
def Obligations.UnlistedEncodingRaises : Prop :=
  (∀ (s : State) (e : DecodeError),
      (s.pending = none → runDecoded s (.rejected e) = raise .illegalInstruction s) ∧
      (s.pending ≠ none → runDecoded s (.rejected e) = raise .slotIllegalInstruction s)) ∧
    decode (wordsBytes [0x0F09#16]) = .rejected (.unlisted16 0x0F09#16) ∧
    decode (wordsBytes [0x3012#16]) = .rejected (.unlisted16 0x3012#16) ∧
    decode (wordsBytes [0x6018#16]) = .rejected (.unlisted16 0x6018#16)

/-- From every state of the invariant, whatever it holds, a step that answers a next state answers one of the invariant:
memory keeps its canonical form, SR.JQ stays 1 (decision D2), FPSCR sets neither FR nor a declared VE bit (decision
D51), and the launch stays one the spec admits. Canonical form is the model's own (log 3). -/
def Obligations.StepKeepsInvariant : Prop :=
  ∀ s t : State, s.Inv → step s = .next t → t.Inv

/-- The invariant of the statement StepKeepsInvariant holds after reset with the default launch and no program. The
reset values of SR and of the registers are the model's (log 1, log 2). -/
def Obligations.ResetHasInvariant : Prop :=
  State.reset.Inv

/-- After reset from any launch and memory: no delayed branch is pending, the machine is not asleep, the list of
exception records is empty, PC, SR and VBR are the launch's RESET_PC, RESET_SR and RESET_VBR, and memory is what the
launch supplies. These reset values are the decision D27 the spec marks as its own; every other register is the
model's choice and is not stated (log 1). -/
def Obligations.ResetLeavesNothingPending : Prop :=
  ∀ (l : Launch) (image : List Host.Cell),
    (State.resetWith l image).pending = none ∧ (State.resetWith l image).sleeping = false ∧
    (State.resetWith l image).records = [] ∧ (State.resetWith l image).pc = l.resetPc ∧
    (State.resetWith l image).sr = l.resetSr ∧ (State.resetWith l image).vbr = l.resetVbr ∧
    (State.resetWith l image).mem = image ∧ (State.resetWith l image).launch = l

/-- If a step answers a next state, its launch parameters are those of the state before, and its list of exception
records is the one before with at most one record added at the end. -/
def Obligations.StepKeepsLaunchAndRecords : Prop :=
  ∀ s t : State, step s = .next t →
    t.launch = s.launch ∧ (t.records = s.records ∨ ∃ r, t.records = s.records ++ [r])

/-- A state in which BRK has ended the run, or SLEEP has put the machine to sleep, steps to a fault of that name; a
state with SR.JQ = 0 is refused. The two ends are the decisions D41 and D31 (log 33), the refusal the decision D2
(log 28). -/
def Obligations.EndedRunTakesNoStep : Prop :=
  ∀ s : State,
    (s.runEnded = true → step s = .fault .runEnded) ∧
    (s.runEnded = false → s.sleeping = true → step s = .fault .sleeping) ∧
    (s.runEnded = false → s.sleeping = false → jqOf s.sr = false → step s = .refused (.modeJqClear s.pc))

/-- With TRAP_ENTRY = vector, raising any cause but Breakpoint gives the next state in which SPC holds the return
address (PC + 2 for Trap, the branch's address in a delay slot, else PC), SSR holds SR, SGR holds R15, SR has the
bits of SR_ENTRY_SET set and every other bit as before, no delayed branch is pending, PC is VBR + VEC_GENERAL, one
record with the cause, PC, the branch's address and the instruction value is added, and nothing else changes: no
register (R15 included), no memory. The entry is the decision D24 the spec marks as its own (log 31), the record's
value of a re-fetched instruction is log 32. With TRAP_ENTRY = fault, it ends in the fault that carries the record.
This is said of the shared operation, for any instruction value; raising an exception of the instruction at PC is
that operation with the value memory holds at PC (none where a byte of it has no value), and the exception of a
failed fetch of the word at a is that operation with the cause AddressError(a, fetch) and no value, and is stated so
(log 32, log 48). -/
def Obligations.TrapEntrySavesAndVectors : Prop :=
  ∀ s : State,
    (∀ c, raise c s = raiseWith c s.instAt s) ∧
    (∀ a, raiseFetch a s = raiseWith (.addressError a .fetch) none s) ∧
    ∀ (c : Cause) (inst : Option DWord), c ≠ .breakpoint →
      (s.launch.trapEntry = .vector → ∃ t, raiseWith c inst s = .next t ∧
        (∀ b, s.pending = some b → (∀ k, c ≠ .trap k) → t.spc = b.branchAddr) ∧
        (s.pending = none → (∀ k, c ≠ .trap k) → t.spc = s.pc) ∧
        (∀ k, c = .trap k → t.spc = s.pc + 2#64) ∧
        t.ssr = s.sr ∧ t.sgr = s.reg 15#5 ∧
        (∀ i, t.sr.getLsbD i = (s.sr.getLsbD i || s.launch.srEntrySet.getLsbD i)) ∧
        t.pending = none ∧ t.pc = s.vbr + s.launch.vecGeneral ∧
        (∃ r, t.records = s.records ++ [r] ∧ r.cause = c ∧ r.ia = s.pc ∧
          r.branchIa = s.pending.map Pending.branchAddr ∧ r.inst = inst) ∧
        s.KeepsBut t ([.spc, .ssr, .sgr, .records] ++ Part.allSr)) ∧
      (s.launch.trapEntry = .fault → raiseWith c inst s = .fault (.exception
        { cause := c, ia := s.pc, branchIa := s.pending.map Pending.branchAddr, inst := inst }))

/-- In a state with a delayed branch pending, executing any instruction whose encoding is two words, any instruction
that sets the next PC (the branches, calls, returns, RTE, TRAPA), and any instruction with a PC operand takes the
exception SlotIllegalInstruction, before anything else. The list is the decision D14 the spec marks as its own (log
18). The modes an FPU instruction needs do not come first for a 32-bit form. -/
def Obligations.DelaySlotRefusesForms : Prop :=
  ∀ s : State, s.pending ≠ none →
    (∀ i : Instr, (encode i).length = 2 → exec i s = raise .slotIllegalInstruction s) ∧
    (∀ (label : BitVec 8), exec (.bfLabel8s label) s = raise .slotIllegalInstruction s) ∧
    (∀ (label : BitVec 8), exec (.bfSLabel8s label) s = raise .slotIllegalInstruction s) ∧
    (∀ (label : BitVec 12), exec (.bra label) s = raise .slotIllegalInstruction s) ∧
    (∀ (n : BitVec 4), exec (.braf n) s = raise .slotIllegalInstruction s) ∧
    (∀ (label : BitVec 8), exec (.braNLabel8s label) s = raise .slotIllegalInstruction s) ∧
    (∀ (label : BitVec 12), exec (.bsr label) s = raise .slotIllegalInstruction s) ∧
    (∀ (n : BitVec 4), exec (.bsrf n) s = raise .slotIllegalInstruction s) ∧
    (∀ (label : BitVec 8), exec (.btLabel8s label) s = raise .slotIllegalInstruction s) ∧
    (∀ (label : BitVec 8), exec (.btSLabel8s label) s = raise .slotIllegalInstruction s) ∧
    (∀ (n : BitVec 4), exec (.jmp n) s = raise .slotIllegalInstruction s) ∧
    (∀ (n : BitVec 4), exec (.jsr n) s = raise .slotIllegalInstruction s) ∧
    (exec .rts s = raise .slotIllegalInstruction s) ∧
    (exec .rte s = raise .slotIllegalInstruction s) ∧
    (∀ (imm : BitVec 8), exec (.trapa imm) s = raise .slotIllegalInstruction s) ∧
    (∀ (n : BitVec 4), exec (.leaBAtPcR0Rn n) s = raise .slotIllegalInstruction s) ∧
    (∀ (m : BitVec 4), exec (.movBRmAtPcR0 m) s = raise .slotIllegalInstruction s) ∧
    (∀ (n : BitVec 4), exec (.movBAtPcR0Rn n) s = raise .slotIllegalInstruction s) ∧
    (∀ (disp : BitVec 8) (n : BitVec 4), exec (.movLAtPcDisp8Rn disp n) s = raise .slotIllegalInstruction s) ∧
    (∀ (m : BitVec 4), exec (.movLRmAtPcR0 m) s = raise .slotIllegalInstruction s) ∧
    (∀ (n : BitVec 4), exec (.movLAtPcR0Rn n) s = raise .slotIllegalInstruction s) ∧
    (∀ (m : BitVec 4), exec (.movQRmAtPcR0 m) s = raise .slotIllegalInstruction s) ∧
    (∀ (n : BitVec 4), exec (.movQAtPcR0Rn n) s = raise .slotIllegalInstruction s) ∧
    (∀ (m : BitVec 4), exec (.movWRmAtPcR0 m) s = raise .slotIllegalInstruction s) ∧
    (∀ (n : BitVec 4), exec (.movWAtPcR0Rn n) s = raise .slotIllegalInstruction s) ∧
    (∀ (disp : BitVec 8) (n : BitVec 4), exec (.movWAtPcDisp8Rn disp n) s = raise .slotIllegalInstruction s) ∧
    (∀ (disp : BitVec 8), exec (.mova disp) s = raise .slotIllegalInstruction s)

/-- With FPU_PROFILE None each instruction of 46_fpu.md and each FPUL and FPSCR form of LDS, LDS.L, STS, STS.L takes the
exception FpuDisabled, whatever its operands (the four that only one value of FPSCR.PR admits, under that value; the
32-bit forms outside a delay slot). That the trap is a cause of its own, and its priority, are the decision D25 (log
30). -/
def Obligations.NoFpuMeansFpuDisabled : Prop :=
  ∀ s : State, s.launch.fpuProfile = .none →
    (∀ (n : BitVec 4), exec (.fabs n) s = raise .fpuDisabled s) ∧
    (∀ (m n : BitVec 4), exec (.fadd m n) s = raise .fpuDisabled s) ∧
    (∀ (m n : BitVec 4), exec (.fcmpeq m n) s = raise .fpuDisabled s) ∧
    (∀ (m n : BitVec 4), exec (.fcmpgt m n) s = raise .fpuDisabled s) ∧
    (∀ (m : BitVec 4), s.fpPr = true → exec (.fcnvds m) s = raise .fpuDisabled s) ∧
    (∀ (n : BitVec 4), s.fpPr = true → exec (.fcnvsd n) s = raise .fpuDisabled s) ∧
    (∀ (m n : BitVec 4), exec (.fdiv m n) s = raise .fpuDisabled s) ∧
    (∀ (vm vn : BitVec 2), s.fpPr = false → exec (.fipr vm vn) s = raise .fpuDisabled s) ∧
    (∀ (n : BitVec 4), exec (.fldi0 n) s = raise .fpuDisabled s) ∧
    (∀ (n : BitVec 4), exec (.fldi1 n) s = raise .fpuDisabled s) ∧
    (∀ (m : BitVec 4), exec (.flds m) s = raise .fpuDisabled s) ∧
    (∀ (n : BitVec 4), exec (.float n) s = raise .fpuDisabled s) ∧
    (∀ (m n : BitVec 4), s.fpPr = false → exec (.fmac m n) s = raise .fpuDisabled s) ∧
    (∀ (m n : BitVec 4), exec (.fmov m n) s = raise .fpuDisabled s) ∧
    (∀ (m n : BitVec 4), exec (.fmovSAtR0RmFrn m n) s = raise .fpuDisabled s) ∧
    (∀ (m n : BitVec 4), exec (.fmovSFrmAtR0Rn m n) s = raise .fpuDisabled s) ∧
    (∀ (m n : BitVec 4), exec (.fmovSAtRmFrn m n) s = raise .fpuDisabled s) ∧
    (∀ (m n : BitVec 4), exec (.fmovSIncRmFrn m n) s = raise .fpuDisabled s) ∧
    (∀ (m n : BitVec 4), exec (.fmovSFrmAtRn m n) s = raise .fpuDisabled s) ∧
    (∀ (m n : BitVec 4), exec (.fmovSFrmDecRn m n) s = raise .fpuDisabled s) ∧
    (∀ (m n : BitVec 4), exec (.fmul m n) s = raise .fpuDisabled s) ∧
    (∀ (n : BitVec 4), exec (.fneg n) s = raise .fpuDisabled s) ∧
    (∀ (n : BitVec 4), exec (.fsqrt n) s = raise .fpuDisabled s) ∧
    (∀ (m n : BitVec 4), exec (.fsub m n) s = raise .fpuDisabled s) ∧
    (∀ (imm : BitVec 4), exec (.psetmd4 imm) s = raise .fpuDisabled s) ∧
    (∀ (m : BitVec 4), exec (.ftrc m) s = raise .fpuDisabled s) ∧
    (∀ (m : BitVec 4), exec (.ldhf16RmFpul m) s = raise .fpuDisabled s) ∧
    (∀ (imm : BitVec 16), s.pending = none → exec (.ldhf16Imm16Fpul imm) s = raise .fpuDisabled s) ∧
    (∀ (imm : BitVec 16), s.pending = none → exec (.ldif16 imm) s = raise .fpuDisabled s) ∧
    (∀ (n : BitVec 4), exec (.sthf16 n) s = raise .fpuDisabled s) ∧
    (∀ (m : BitVec 4), exec (.ldsRmFpul m) s = raise .fpuDisabled s) ∧
    (∀ (m : BitVec 4), exec (.ldsRmFpscr m) s = raise .fpuDisabled s) ∧
    (∀ (m : BitVec 4), exec (.ldsLIncRmFpul m) s = raise .fpuDisabled s) ∧
    (∀ (m : BitVec 4), exec (.ldsLIncRmFpscr m) s = raise .fpuDisabled s) ∧
    (∀ (n : BitVec 4), exec (.stsFpulRn n) s = raise .fpuDisabled s) ∧
    (∀ (n : BitVec 4), exec (.stsFpscrRn n) s = raise .fpuDisabled s) ∧
    (∀ (n : BitVec 4), exec (.stsLFpulDecRn n) s = raise .fpuDisabled s) ∧
    (∀ (n : BitVec 4), exec (.stsLFpscrDecRn n) s = raise .fpuDisabled s)

/-- Over all instructions and states: if an instruction that is none of the list (ADDC, ADDV, SUBC, SUBV, NEGC, the
compares, TST, DT, DIV0S, DIV0U, DIV1, CLRT, SETT, ROTL, ROTR, ROTCL, ROTCR, SHAL, SHAR, SHLL, SHLR on one register,
FCMPEQ, FCMPGT, CAS.L, LDC and LDC.L to SR, RTE) answers a next state, SR.T is what it was; the entry into a handler
is such a next state too, for a launch whose SR_ENTRY_SET holds no named field. That CAS.L writes T is the decision
D30 (log 24) and the position of T is log 25. -/
def Obligations.OnlyListedInstructionsWriteT : Prop :=
  ∀ (i : Instr) (s t : State), s.launch.wf = true → i.writesT = false → exec i s = .next t → t.flagT = s.flagT

/-- Over all instructions and states: an instruction other than LDC and LDC.L to SR and RTE that answers a next state
leaves SR.JQ and SR.DQ as they were; it leaves SR.S unless it is SETS or CLRS, SR.M unless it is DIV0S or DIV0U, and
SR.Q unless it is DIV0S, DIV0U or DIV1; for a launch whose SR_ENTRY_SET holds no named field. The positions of the
fields are log 25. -/
def Obligations.OnlyListedInstructionsWriteMode : Prop :=
  ∀ (i : Instr) (s t : State), s.launch.wf = true → i.writesSr = false → exec i s = .next t →
    jqOf t.sr = jqOf s.sr ∧ t.flagDq = s.flagDq ∧
    (i ≠ .sets → i ≠ .clrs → t.flagS = s.flagS) ∧
    (i ≠ .div0s → i ≠ .div0u → t.flagM = s.flagM) ∧
    (i ≠ .div0s → i ≠ .div0u → i ≠ .div1 → t.flagQ = s.flagQ)

/-- Over all instructions and states: an instruction that answers a next state leaves all eight banked registers as they
were unless it is LDC Rm, RnB or LDC.L @Rm+, RnB; it leaves SGR as it was unless it took an exception, which adds a
record. That nothing swaps the bank is the decision D39 (log 27). -/
def Obligations.OnlyBankMovesWriteTheBank : Prop :=
  ∀ (i : Instr) (s t : State), exec i s = .next t →
    ((∀ m b, i ≠ .ldcRmBank m b) → (∀ m b, i ≠ .ldcLIncRmBank m b) → t.bank = s.bank) ∧
    (t.records = s.records → t.sgr = s.sgr)

/-- MemRead and MemWrite: for n of 1, 2, 4 and 8 a store that check admits continues in the state in which byte k of the
access holds bits 8k+7 to 8k of the value and every byte outside the access reads as before; one that check refuses
writes nothing and raises AddressError(a, write); a load that check admits continues with the value whose byte k is
the byte at a+k, the one at a least significant; one that check refuses raises AddressError(a, read). A value
written and read back is the value cut to n bytes, so a narrow store ignores the upper bits. What check admits, and
AddressError with nothing written, are the decisions D19 and D28 (log 19, log 4), the top of the address space D3
(log 7). -/
def Obligations.MemoryReadsBackWrites : Prop :=
  ∀ (s : State) (a : QWord) (n v : Nat), n = 1 ∨ n = 2 ∨ n = 4 ∨ n = 8 →
    (∀ k : State → Result,
      (s.Stores a n → ∃ t, store a n v s k = k t ∧ t.Holds a n v ∧ s.KeepsBut t (s.bytesAt a n) ∧
        memRead t.mem (s.launch.locate a) n = some (v % 256 ^ n)) ∧
      (s.accessOk .write a n = false → store a n v s k = raise (.addressError a .write) s)) ∧
    (∀ k : Nat → Result,
      (∀ bytes : Nat → Byte, s.accessOk .read a n = true →
        (∀ i < n, memGet s.mem (s.launch.locate a + i) = some (bytes i)) →
        load a n s k = k (((List.range n).map fun i => (bytes i).toNat * 256 ^ i).sum)) ∧
      (s.accessOk .read a n = false → load a n s k = raise (.addressError a .read) s))

/-- check(a, n, kind) for data: admitted exactly when a is a multiple of the parameter for n bytes (ALIGN_B, ALIGN_W,
ALIGN_L, ALIGN_Q), the bytes do not pass the top of the address space, and each lies in a region of MEM_MAP, a
writable one for a write. The byte an address names is given by its VA_BITS low bits, all of it when VA_BITS is 64
(decision D3; that the other bits are ignored is the model's choice, log 7). With the default launch an 8-byte
access at 2 modulo 4 is refused and one at 4 modulo 8 admitted. The alignment of 4-byte accesses and the outcome are
the decision D19 (log 19), MEM_MAP the decision D28 (log 4). A load that is admitted but has a byte that holds no
value ends in the fault that names its address, the model's choice for memory nothing has written (log 3). -/
def Obligations.AccessCheckRule : Prop :=
  (∀ (s : State) (a : QWord) (kind : AccessKind),
      (∀ n al, (n, al) ∈ [(1, s.launch.alignB), (2, s.launch.alignW), (4, s.launch.alignL), (8, s.launch.alignQ)] →
        (s.accessOk kind a n = true ↔
          a.toNat % al = 0 ∧ s.launch.locate a + n ≤ s.launch.space ∧
          ∀ k < n, ∃ r ∈ s.launch.memMap, r.base ≤ s.launch.locate a + k ∧ s.launch.locate a + k < r.base + r.size ∧
            (kind = .write → r.writable = true)))) ∧
    (∀ (l : Launch) (a : QWord), (l.vaBits ≤ 64 → l.space = 2 ^ l.vaBits ∧ l.locate a = a.toNat % 2 ^ l.vaBits) ∧
      (l.vaBits = 64 → l.locate a = a.toNat)) ∧
    State.reset.accessOk .read 0x2002#64 8 = false ∧ State.reset.accessOk .read 0x2004#64 8 = true ∧
    State.reset.accessOk .read 0xFFFFFFFFFFFFFFFC#64 8 = false ∧
    (∀ (s : State) (a : QWord) (n : Nat) (k : Nat → Result), s.accessOk .read a n = true →
    (∃ i < n, memGet s.mem (s.launch.locate a + i) = none) → load a n s k = .fault (.unwritten a))

/-- Two memories in canonical form whose every byte reads alike are the same list, and writing n bytes that do not pass
the top of the address space keeps the form. Canonical form is the model's own representation (log 3). -/
def Obligations.MemoryStaysCanonical : Prop :=
  (∀ m m' : List Host.Cell, memWf m = true → memWf m' = true → (∀ a, memGet m a = memGet m' a) → m = m') ∧
    (∀ (m : List Host.Cell) (a n v : Nat), memWf m = true → a + n ≤ 2 ^ 64 → memWf (memWrite m a n v) = true)

/-- The PC operand is PC + 4 in a 16-bit form and PC + 6 in a 32-bit form (log 16). The address of @(R0, Rm) is R0 + Rm;
of @(PC, R0) it is PC + 4 + R0; of MOV.W @(PC, disp8) it is PC + 4 + 2 * disp8; of MOV.L @(PC, disp8) and MOVA it is
PC + 4 with its low two bits cleared, plus 4 * disp8 (decision D17, log 16), disp8 unsigned; of @(Rm, disp) it is Rm
+ disp times the size; of @(Rm, Ro, disp), and with disp = 0 of @(Rm, Ro) (decision D44, log 23), it is Rm + (Ro +
disp) times the size, where Ro = R15 counts as 0, Ro = R0 makes the scale 1, and R16 and R31 are ordinary. All
modulo 2^64 (decision D3, log 7). -/
def Obligations.EffectiveAddresses : Prop :=
  ∀ (s : State) (z : Size) (m o : BitVec 5) (disp : QWord) (disp8 : BitVec 8),
    Wraps 64 (s.pc.toInt + 4) (s.pcOperand .short) ∧ Wraps 64 (s.pc.toInt + 6) (s.pcOperand .long) ∧
    Wraps 64 ((s.reg 0#5).toInt + (s.reg m).toInt) (s.eaR0 m) ∧
    Wraps 64 (s.pc.toInt + 4 + (s.reg 0#5).toInt) s.eaPcR0 ∧
    Wraps 64 (s.pc.toInt + 4 + 2 * (disp8.toNat : Int)) (s.eaPcDispW disp8) ∧
    Wraps 64 (s.pc.toInt + 4 - (s.pc.toInt + 4) % 4 + 4 * (disp8.toNat : Int)) (s.eaPcDispL disp8) ∧
    Wraps 64 ((s.reg m).toInt + disp.toInt * z.bytes) (s.eaDisp z m disp) ∧
    (o ≠ 0#5 → o ≠ 15#5 →
      Wraps 64 ((s.reg m).toInt + ((s.reg o).toInt + disp.toInt) * z.bytes) (s.eaIndex z m o disp)) ∧
    Wraps 64 ((s.reg m).toInt + disp.toInt * z.bytes) (s.eaIndex z m 15#5 disp) ∧
    Wraps 64 ((s.reg m).toInt + ((s.reg 0#5).toInt + disp.toInt)) (s.eaIndex z m 0#5 disp)

/-- Each form of ADD, SUB, NEG and MUL with a register destination answers the next state in which Rn is the exact sum,
difference, negation or product cut to W bits and sign-extended (ADD: signed immediates in the two-operand forms,
unsigned in the three-operand ones; MUL #imm extends the immediate with zeroes, MUL #-imm with ones, so that it
stands for the field minus 2^w), and nothing else changes; W is 32 or 64, under OPW_RULE = R7 it is 64 exactly when
q or SR.DQ is 1; the operation width is the decision D4 to D6 the spec marks as its own (log 12); a 32-bit form is
stated outside a delay slot (decision D14, log 18). -/
def Obligations.AddSubNegMulRun : Prop :=
  ∀ s : State,
    (∀ q : Bool, (s.width q = 32 ∨ s.width q = 64) ∧
      (s.launch.opwRule = .r7 → s.width q = if q = true ∨ s.flagDq = true then 64 else 32)) ∧
    (∀ (m n : BitVec 4), Runs .short (.addRmRn m n) s [.reg (lo n)] fun t =>
      Wraps (s.width false) ((s.reg (lo n)).toInt + (s.reg (lo m)).toInt) (t.reg (lo n))) ∧
    (∀ (q : Bool) (m n : BitVec 5), RunsOutside .long (.addRmRnCe q m n) s [.reg n] fun t =>
      Wraps (s.width q) ((s.reg n).toInt + (s.reg m).toInt) (t.reg n)) ∧
    (∀ (imm : BitVec 8) (n : BitVec 4), Runs .short (.addImm8sRn imm n) s [.reg (lo n)] fun t =>
      Wraps (s.width false) ((s.reg (lo n)).toInt + imm.toInt) (t.reg (lo n))) ∧
    (∀ (imm : BitVec 16) (n : BitVec 4), RunsOutside .long (.addImm16sRn imm n) s [.reg (lo n)] fun t =>
      Wraps (s.width false) ((s.reg (lo n)).toInt + imm.toInt) (t.reg (lo n))) ∧
    (∀ (imm : BitVec 16) (n : BitVec 4), RunsOutside .long (.addImm16sRnHi imm n) s [.reg (hi n)] fun t =>
      Wraps (s.width false) ((s.reg (hi n)).toInt + imm.toInt) (t.reg (hi n))) ∧
    (∀ (m : BitVec 4) (imm : BitVec 8) (n : BitVec 4), RunsOutside .long (.addRmImm8Rn m imm n) s [.reg (lo n)] fun t
      => Wraps (s.width false) ((s.reg (lo m)).toInt + (imm.toNat : Int)) (t.reg (lo n))) ∧
    (∀ (m : BitVec 5) (imm : BitVec 6) (n : BitVec 5), RunsOutside .long (.addRmImm6Rn m imm n) s [.reg n] fun t =>
      Wraps (s.width false) ((s.reg m).toInt + (imm.toNat : Int)) (t.reg n)) ∧
    (∀ (q : Bool) (m o n : BitVec 5), RunsOutside .long (.addRmRoRn q m o n) s [.reg n] fun t =>
      Wraps (s.width q) ((s.reg m).toInt + (s.reg o).toInt) (t.reg n)) ∧
    (∀ (m : BitVec 4) (imm : BitVec 8) (n : BitVec 4), RunsOutside .long (.mulRmImm8Rn m imm n) s [.reg (lo n)] fun t
      => Wraps (s.width false) ((s.reg (lo m)).toInt * (imm.toNat : Int)) (t.reg (lo n))) ∧
    (∀ (m : BitVec 4) (imm : BitVec 8) (n : BitVec 4), RunsOutside .long (.mulRmNegImm8Rn m imm n) s [.reg (lo n)]
      fun t => Wraps (s.width false) ((s.reg (lo m)).toInt * ((imm.toNat : Int) - 2 ^ 8)) (t.reg (lo n))) ∧
    (∀ (m : BitVec 5) (imm : BitVec 6) (n : BitVec 5), RunsOutside .long (.mulRmImm6Rn m imm n) s [.reg n] fun t =>
      Wraps (s.width false) ((s.reg m).toInt * (imm.toNat : Int)) (t.reg n)) ∧
    (∀ (m : BitVec 5) (imm : BitVec 6) (n : BitVec 5), RunsOutside .long (.mulRmNegImm6Rn m imm n) s [.reg n] fun t
      => Wraps (s.width false) ((s.reg m).toInt * ((imm.toNat : Int) - 2 ^ 6)) (t.reg n)) ∧
    (∀ (q : Bool) (m o n : BitVec 5), RunsOutside .long (.mulRmRoRn q m o n) s [.reg n] fun t =>
      Wraps (s.width q) ((s.reg m).toInt * (s.reg o).toInt) (t.reg n)) ∧
    (∀ (m n : BitVec 4), Runs .short (.negRmRn m n) s [.reg (lo n)] fun t =>
      Wraps (s.width false) (-(s.reg (lo m)).toInt) (t.reg (lo n))) ∧
    (∀ (q : Bool) (m n : BitVec 5), RunsOutside .long (.negRmRnCe q m n) s [.reg n] fun t =>
      Wraps (s.width q) (-(s.reg m).toInt) (t.reg n)) ∧
    (∀ (m n : BitVec 4), Runs .short (.subRmRn m n) s [.reg (lo n)] fun t =>
      Wraps (s.width false) ((s.reg (lo n)).toInt - (s.reg (lo m)).toInt) (t.reg (lo n))) ∧
    (∀ (q : Bool) (m n : BitVec 5), RunsOutside .long (.subRmRnCe q m n) s [.reg n] fun t =>
      Wraps (s.width q) ((s.reg n).toInt - (s.reg m).toInt) (t.reg n)) ∧
    (∀ (m : BitVec 4) (imm : BitVec 8) (n : BitVec 4), RunsOutside .long (.subRmImm8Rn m imm n) s [.reg (lo n)] fun t
      => Wraps (s.width false) ((s.reg (lo m)).toInt - (imm.toNat : Int)) (t.reg (lo n))) ∧
    (∀ (m : BitVec 5) (imm : BitVec 6) (n : BitVec 5), RunsOutside .long (.subRmImm6Rn m imm n) s [.reg n] fun t =>
      Wraps (s.width false) ((s.reg m).toInt - (imm.toNat : Int)) (t.reg n)) ∧
    (∀ (q : Bool) (m o n : BitVec 5), RunsOutside .long (.subRmRoRn q m o n) s [.reg n] fun t =>
      Wraps (s.width q) ((s.reg m).toInt - (s.reg o).toInt) (t.reg n))

/-- ADDC writes the sum with the carry in T and sets T to the carry out of bit W-1; SUBC and NEGC write the difference
with the borrow in T and set T to the borrow; ADDV and SUBV write the result and clear T exactly when the exact
signed result is in the range of W bits; DT subtracts one and sets T exactly when the result is zero. Nothing else
changes. The meanings of NEGC and SUBC are taken from outside the source and SUBV is the mirror of ADDV (log 45);
the operation width is the decision D4 to D6 the spec marks as its own (log 12); a 32-bit form is stated outside a
delay slot (decision D14, log 18). -/
def Obligations.CarryAndOverflowRun : Prop :=
  ∀ s : State,
    (∀ (m n : BitVec 4), Runs .short (.addcRmRn m n) s [.reg (lo n), .t] fun t =>
      Wraps (s.width false) ((s.reg (lo n)).toInt + (s.reg (lo m)).toInt + (s.flagT.toNat : Int)) (t.reg (lo n)) ∧
      t.flagT = decide (2 ^ (s.width false) ≤ unsignedLow (s.width false) (s.reg (lo n)) + unsignedLow (s.width
        false) (s.reg (lo m)) + s.flagT.toNat)) ∧
    (∀ (q : Bool) (m n : BitVec 5), RunsOutside .long (.addcRmRnCe q m n) s [.reg n, .t] fun t =>
      Wraps (s.width q) ((s.reg n).toInt + (s.reg m).toInt + (s.flagT.toNat : Int)) (t.reg n) ∧
      t.flagT = decide (2 ^ (s.width q) ≤ unsignedLow (s.width q) (s.reg n) + unsignedLow (s.width q) (s.reg m) +
        s.flagT.toNat)) ∧
    (∀ (q : Bool) (m n : BitVec 5), RunsOutside .long (.addv q m n) s [.reg n, .t] fun t =>
      Wraps (s.width q) ((s.reg n).toInt + (s.reg m).toInt) (t.reg n) ∧
      (t.flagT = false ↔ -2 ^ ((s.width q) - 1) ≤ signedLow (s.width q) (s.reg n) + signedLow (s.width q) (s.reg m) ∧
        signedLow (s.width q) (s.reg n) + signedLow (s.width q) (s.reg m) < 2 ^ ((s.width q) - 1))) ∧
    (∀ (n : BitVec 4), Runs .short (.dt n) s [.reg (lo n), .t] fun t =>
      Wraps (s.width false) ((s.reg (lo n)).toInt - 1) (t.reg (lo n)) ∧ (t.flagT = true ↔ t.reg (lo n) = 0#64)) ∧
    (∀ (m n : BitVec 4), Runs .short (.negcRmRn m n) s [.reg (lo n), .t] fun t =>
      Wraps (s.width false) (-(s.reg (lo m)).toInt - (s.flagT.toNat : Int)) (t.reg (lo n)) ∧
      t.flagT = decide (0 < unsignedLow (s.width false) (s.reg (lo m)) + s.flagT.toNat)) ∧
    (∀ (q : Bool) (m n : BitVec 5), RunsOutside .long (.negcRmRnCe q m n) s [.reg n, .t] fun t =>
      Wraps (s.width q) (-(s.reg m).toInt - (s.flagT.toNat : Int)) (t.reg n) ∧
      t.flagT = decide (0 < unsignedLow (s.width q) (s.reg m) + s.flagT.toNat)) ∧
    (∀ (m n : BitVec 4), Runs .short (.subc m n) s [.reg (lo n), .t] fun t =>
      Wraps (s.width false) ((s.reg (lo n)).toInt - (s.reg (lo m)).toInt - (s.flagT.toNat : Int)) (t.reg (lo n)) ∧
      t.flagT = decide (unsignedLow (s.width false) (s.reg (lo n)) < unsignedLow (s.width false) (s.reg (lo m)) +
        s.flagT.toNat)) ∧
    (∀ (q : Bool) (m n : BitVec 5), RunsOutside .long (.subv q m n) s [.reg n, .t] fun t =>
      Wraps (s.width q) ((s.reg n).toInt - (s.reg m).toInt) (t.reg n) ∧
      (t.flagT = false ↔ -2 ^ ((s.width q) - 1) ≤ signedLow (s.width q) (s.reg n) - signedLow (s.width q) (s.reg m) ∧
        signedLow (s.width q) (s.reg n) - signedLow (s.width q) (s.reg m) < 2 ^ ((s.width q) - 1)))

/-- DIV0U clears Q, M and T. DIV0S sets Q to bit 31 of R4, M to bit 31 of R5 and T to their exclusive or. DIV1 shifts T
into the low half of R4, subtracts the low half of R5 when Q = M and adds it otherwise, writes the low 32 bits sign-
extended to R4, sets Q to the exclusive or of the bit shifted out, M and the borrow or carry, and sets T to 1
exactly when the new Q equals M. Nothing else changes. The widths are the reading C15 and the decision D43 (log 14),
the positions of the flags log 25. -/
def Obligations.DivisionStepRuns : Prop :=
  ∀ s : State,
    Runs .short .div0u s [.q, .m, .t] (fun t => t.flagQ = false ∧ t.flagM = false ∧ t.flagT = false) ∧
    Runs .short .div0s s [.q, .m, .t] (fun t => t.flagQ = (s.reg 4#5).getLsbD 31 ∧
      t.flagM = (s.reg 5#5).getLsbD 31 ∧ t.flagT = ((s.reg 4#5).getLsbD 31 != (s.reg 5#5).getLsbD 31)) ∧
    Runs .short .div1 s [.reg 4#5, .q, .t] fun t =>
      let d : Int := ((2 * (s.reg 4#5).toNat + s.flagT.toNat) % 2 ^ 32 : Nat)
      let b : Int := ((s.reg 5#5).toNat % 2 ^ 32 : Nat)
      let x : Int := if s.flagQ = s.flagM then d - b else d + b
      Wraps 32 x (t.reg 4#5) ∧
      t.flagQ = ((s.reg 4#5).getLsbD 31 ^^ s.flagM ^^ decide (x < 0 ∨ 2 ^ 32 ≤ x)) ∧
      t.flagT = (t.flagQ == s.flagM)

/-- DMULS.L and DMULU.L leave in MACH:MACL all 64 bits of the signed or unsigned product of the low halves; MUL.L leaves
in MACL the low 32 bits of the product; MULS.W and MULU.W leave in MACL all 32 bits of the signed or unsigned
product of the low Words. The other half, every register and every flag keep their values. That the operands are 32
or 16 bits wide whatever SR.DQ is is the decision D47 (log 14), the widths of MACH and MACL the decision D23 (log
26); a 32-bit form is stated outside a delay slot (decision D14, log 18). -/
def Obligations.MultipliesIntoMacRun : Prop :=
  ∀ s : State,
    (∀ m n : BitVec 4, Runs .short (.dmulsL m n) s [.mach, .macl] fun t =>
      (t.mach ++ t.macl : QWord).toInt = signedLow 32 (s.reg (lo n)) * signedLow 32 (s.reg (lo m))) ∧
    (∀ m n : BitVec 4, Runs .short (.dmuluL m n) s [.mach, .macl] fun t =>
      (t.mach ++ t.macl : QWord).toNat = unsignedLow 32 (s.reg (lo n)) * unsignedLow 32 (s.reg (lo m))) ∧
    (∀ m n : BitVec 4, Runs .short (.mulLRmRn m n) s [.macl] fun t =>
      t.macl.toNat = (s.reg (lo n)).toNat * (s.reg (lo m)).toNat % 2 ^ 32) ∧
    (∀ m n : BitVec 5, RunsOutside .long (.mulLRmRnCe m n) s [.macl] fun t =>
      t.macl.toNat = (s.reg n).toNat * (s.reg m).toNat % 2 ^ 32) ∧
    (∀ m n : BitVec 4, Runs .short (.mulsW m n) s [.macl] fun t =>
      t.macl.toInt = signedLow 16 (s.reg (lo n)) * signedLow 16 (s.reg (lo m))) ∧
    (∀ m n : BitVec 4, Runs .short (.muluW m n) s [.macl] fun t =>
      t.macl.toNat = unsignedLow 16 (s.reg (lo n)) * unsignedLow 16 (s.reg (lo m)))

/-- LDSH16Z leaves 65536 times Rn plus the immediate, modulo 2^64; MOV Rm, Rn copies all 64 bits; CSELT copies Rm when T
is 1 and Ro when it is 0. Nothing else changes. That these use all 64 bits is the decision D4 (log 14), the reading
of CSELT is C17; a 32-bit form is stated outside a delay slot (decision D14, log 18). -/
def Obligations.MovesAndSelectsRun : Prop :=
  ∀ s : State,
    (∀ (imm : BitVec 16) (n : BitVec 4), RunsOutside .long (.ldsh16zImm16Rn imm n) s [.reg (lo n)] fun t =>
      (t.reg (lo n)).toNat = (65536 * (s.reg (lo n)).toNat + imm.toNat) % 2 ^ 64) ∧
    (∀ (imm : BitVec 16) (n : BitVec 4), RunsOutside .long (.ldsh16zImm16RnHi imm n) s [.reg (hi n)] fun t =>
      (t.reg (hi n)).toNat = (65536 * (s.reg (hi n)).toNat + imm.toNat) % 2 ^ 64) ∧
    (∀ (m n : BitVec 4), Runs .short (.movRmRn m n) s [.reg (lo n)] fun t => t.reg (lo n) = s.reg (lo m)) ∧
    (∀ (m n : BitVec 5), RunsOutside .long (.movRmRnCe m n) s [.reg n] fun t => t.reg n = s.reg m) ∧
    (∀ (m o n : BitVec 5), RunsOutside .long (.cselt m o n) s [.reg n] fun t =>
      t.reg n = if s.flagT = true then s.reg m else s.reg o)

/-- The words Enii, 8Eii-Enii and CEii-Enii decode to MOV #imm with Rn = R0..R15, R0..R15 and R16..R31 and the immediate
of 8 or 16 bits; executed (the 32-bit forms outside a delay slot) they leave in Rn the immediate sign-extended to 64
bits. The word 0n29 decodes to MOVT Rn, which leaves 1 in Rn when T is set and 0 when it is clear. Nothing else
changes. Follows R191, R192. -/
def Obligations.LoadImmediateAndMovtRun : Prop :=
  ∀ s : State,
    (∀ (imm : BitVec 8) (n : BitVec 4), Decodes [word 0xE#4 n (nib1 imm) (nib0 imm)] (.movImm8sRn imm n) ∧
      Runs .short (.movImm8sRn imm n) s [.reg (lo n)] fun t => (t.reg (lo n)).toInt = imm.toInt) ∧
    (∀ (imm : BitVec 16) (n : BitVec 4), Decodes [word 0x8#4 0xE#4 (nib3 imm) (nib2 imm), word 0xE#4 n (nib1 imm)
      (nib0 imm)] (.movImm16sRn imm n) ∧
      RunsOutside .long (.movImm16sRn imm n) s [.reg (lo n)] fun t => (t.reg (lo n)).toInt = imm.toInt) ∧
    (∀ (imm : BitVec 16) (n : BitVec 4), Decodes [word 0xC#4 0xE#4 (nib3 imm) (nib2 imm), word 0xE#4 n (nib1 imm)
      (nib0 imm)] (.movImm16sRnHi imm n) ∧
      RunsOutside .long (.movImm16sRnHi imm n) s [.reg (hi n)] fun t => (t.reg (hi n)).toInt = imm.toInt) ∧
    (∀ n : BitVec 4, Decodes [word 0x0#4 n 0x2#4 0x9#4] (.movt n) ∧
      Runs .short (.movt n) s [.reg (lo n)] fun t => (t.reg (lo n)).toNat = if s.flagT = true then 1 else 0)

/-- CMP/EQ, GE, GT, HI, HS in every register and immediate form, CMP/PL and CMP/PZ: T is set exactly when Rn equals, is
at least, or exceeds the other operand, signed but for HI and HS, which compare the low W bits as unsigned with the
immediate sign-extended first; PL and PZ compare with zero. Nothing else changes; the operation width is the
decision D4 to D6 the spec marks as its own (log 12); a 32-bit form is stated outside a delay slot (decision D14,
log 18). -/
def Obligations.ComparesRun : Prop :=
  ∀ s : State,
    (∀ (m n : BitVec 4), Runs .short (.cmpEqRmRn m n) s [.t] fun t => (t.flagT = true ↔
      signedLow (s.width false) (s.reg (lo n)) = signedLow (s.width false) (s.reg (lo m)))) ∧
    (∀ (q : Bool) (m n : BitVec 5), RunsOutside .long (.cmpEqRmRnCe q m n) s [.t] fun t => (t.flagT = true ↔
      signedLow (s.width q) (s.reg n) = signedLow (s.width q) (s.reg m))) ∧
    (∀ (imm : BitVec 8), Runs .short (.cmpEqImm8sR0 imm) s [.t] fun t => (t.flagT = true ↔
      signedLow (s.width false) (s.reg 0#5) = imm.toInt)) ∧
    (∀ (imm : BitVec 12) (n : BitVec 4), RunsOutside .long (.cmpEqImm12sRn imm n) s [.t] fun t =>
      (t.flagT = true ↔ signedLow (s.width false) (s.reg (lo n)) = imm.toInt)) ∧
    (∀ (q : Bool) (imm : BitVec 10) (n : BitVec 5), RunsOutside .long (.cmpEqImm10sRn q imm n) s [.t] fun t =>
      (t.flagT = true ↔ signedLow (s.width q) (s.reg n) = imm.toInt)) ∧
    (∀ (imm : BitVec 12) (n : BitVec 4), RunsOutside .long (.cmpGeImm12sRn imm n) s [.t] fun t =>
      (t.flagT = true ↔ imm.toInt ≤ signedLow (s.width false) (s.reg (lo n)))) ∧
    (∀ (q : Bool) (imm : BitVec 10) (n : BitVec 5), RunsOutside .long (.cmpGeImm10sRn q imm n) s [.t] fun t =>
      (t.flagT = true ↔ imm.toInt ≤ signedLow (s.width q) (s.reg n))) ∧
    (∀ (q : Bool) (m n : BitVec 5), RunsOutside .long (.cmpGeRmRn q m n) s [.t] fun t => (t.flagT = true ↔
      signedLow (s.width q) (s.reg m) ≤ signedLow (s.width q) (s.reg n))) ∧
    (∀ (m n : BitVec 4), Runs .short (.cmpGtRmRn m n) s [.t] fun t => (t.flagT = true ↔
      signedLow (s.width false) (s.reg (lo m)) < signedLow (s.width false) (s.reg (lo n)))) ∧
    (∀ (imm : BitVec 12) (n : BitVec 4), RunsOutside .long (.cmpGtImm12sRn imm n) s [.t] fun t =>
      (t.flagT = true ↔ imm.toInt < signedLow (s.width false) (s.reg (lo n)))) ∧
    (∀ (q : Bool) (imm : BitVec 10) (n : BitVec 5), RunsOutside .long (.cmpGtImm10sRn q imm n) s [.t] fun t =>
      (t.flagT = true ↔ imm.toInt < signedLow (s.width q) (s.reg n))) ∧
    (∀ (q : Bool) (m n : BitVec 5), RunsOutside .long (.cmpGtRmRnCe q m n) s [.t] fun t => (t.flagT = true ↔
      signedLow (s.width q) (s.reg m) < signedLow (s.width q) (s.reg n))) ∧
    (∀ (m n : BitVec 4), Runs .short (.cmpHiRmRn m n) s [.t] fun t => (t.flagT = true ↔
      unsignedLow (s.width false) (s.reg (lo m)) < unsignedLow (s.width false) (s.reg (lo n)))) ∧
    (∀ (imm : BitVec 12) (n : BitVec 4), RunsOutside .long (.cmpHiImm12sRn imm n) s [.t] fun t =>
      (t.flagT = true ↔ unsignedLow (s.width false) (signExt imm) < unsignedLow (s.width false) (s.reg (lo n)))) ∧
    (∀ (q : Bool) (m n : BitVec 5), RunsOutside .long (.cmpHiRmRnCe q m n) s [.t] fun t => (t.flagT = true ↔
      unsignedLow (s.width q) (s.reg m) < unsignedLow (s.width q) (s.reg n))) ∧
    (∀ (q : Bool) (imm : BitVec 10) (n : BitVec 5), RunsOutside .long (.cmpHiImm10sRn q imm n) s [.t] fun t =>
      (t.flagT = true ↔ unsignedLow (s.width q) (signExt imm) < unsignedLow (s.width q) (s.reg n))) ∧
    (∀ (imm : BitVec 12) (n : BitVec 4), RunsOutside .long (.cmpHsImm12sRn imm n) s [.t] fun t =>
      (t.flagT = true ↔ unsignedLow (s.width false) (signExt imm) ≤ unsignedLow (s.width false) (s.reg (lo n)))) ∧
    (∀ (q : Bool) (m n : BitVec 5), RunsOutside .long (.cmpHsRmRn q m n) s [.t] fun t => (t.flagT = true ↔
      unsignedLow (s.width q) (s.reg m) ≤ unsignedLow (s.width q) (s.reg n))) ∧
    (∀ (q : Bool) (imm : BitVec 10) (n : BitVec 5), RunsOutside .long (.cmpHsImm10sRn q imm n) s [.t] fun t =>
      (t.flagT = true ↔ unsignedLow (s.width q) (signExt imm) ≤ unsignedLow (s.width q) (s.reg n))) ∧
    (∀ (n : BitVec 4), Runs .short (.cmpPl n) s [.t] fun t => (t.flagT = true ↔
      0 < signedLow (s.width false) (s.reg (lo n)))) ∧
    (∀ (n : BitVec 4), Runs .short (.cmpPz n) s [.t] fun t => (t.flagT = true ↔
      0 ≤ signedLow (s.width false) (s.reg (lo n))))

/-- Each form of AND, OR, XOR and NOT leaves in Rn the operation of the operands' low W bits, bit W-1 repeated above:
imm8 and imm6 are zero-extended, imm12s and imm10s sign-extended, #-imm8 and #-imm6 extended with ones. TST sets T
exactly when no bit below W is 1 in both operands. No other flag and nothing else changes; the operation width is
the decision D4 to D6 the spec marks as its own (log 12); the extension of the immediates is the decision D15 (log
15); a 32-bit form is stated outside a delay slot (decision D14, log 18). -/
def Obligations.BitwiseAndTestsRun : Prop :=
  ∀ s : State,
    (∀ (m n : BitVec 4), Runs .short (.andRmRn m n) s [.reg (lo n)] fun t =>
      BitsAt (s.width false) (fun i => (s.reg (lo n)).getLsbD i && (s.reg (lo m)).getLsbD i) (t.reg (lo n))) ∧
    (∀ (imm : BitVec 8), Runs .short (.andImm8R0 imm) s [.reg 0#5] fun t =>
      BitsAt (s.width false) (fun i => (s.reg 0#5).getLsbD i && imm.getLsbD i) (t.reg 0#5)) ∧
    (∀ (imm : BitVec 12) (n : BitVec 4), RunsOutside .long (.andImm12sRn imm n) s [.reg (lo n)] fun t =>
      BitsAt (s.width false) (fun i => (s.reg (lo n)).getLsbD i && imm.getLsbD (min i 11)) (t.reg (lo n))) ∧
    (∀ (m : BitVec 4) (imm : BitVec 8) (n : BitVec 4), RunsOutside .long (.andRmImm8Rn m imm n) s [.reg (lo n)] fun t
      => BitsAt (s.width false) (fun i => (s.reg (lo m)).getLsbD i && imm.getLsbD i) (t.reg (lo n))) ∧
    (∀ (m : BitVec 5) (imm : BitVec 6) (n : BitVec 5), RunsOutside .long (.andRmImm6Rn m imm n) s [.reg n] fun t =>
      BitsAt (s.width false) (fun i => (s.reg m).getLsbD i && imm.getLsbD i) (t.reg n)) ∧
    (∀ (m : BitVec 4) (imm : BitVec 8) (n : BitVec 4), RunsOutside .long (.andRmNegImm8Rn m imm n) s [.reg (lo n)]
      fun t => BitsAt (s.width false) (fun i => (s.reg (lo m)).getLsbD i && (decide (8 ≤ i) || imm.getLsbD i)) (t.reg
      (lo n))) ∧
    (∀ (m : BitVec 5) (imm : BitVec 6) (n : BitVec 5), RunsOutside .long (.andRmNegImm6Rn m imm n) s [.reg n] fun t
      => BitsAt (s.width false) (fun i => (s.reg m).getLsbD i && (decide (6 ≤ i) || imm.getLsbD i)) (t.reg n)) ∧
    (∀ (q : Bool) (m o n : BitVec 5), RunsOutside .long (.andRmRoRn q m o n) s [.reg n] fun t =>
      BitsAt (s.width q) (fun i => (s.reg m).getLsbD i && (s.reg o).getLsbD i) (t.reg n)) ∧
    (∀ (m n : BitVec 4), Runs .short (.notRmRn m n) s [.reg (lo n)] fun t =>
      BitsAt (s.width false) (fun i => !(s.reg (lo m)).getLsbD i) (t.reg (lo n))) ∧
    (∀ (q : Bool) (m n : BitVec 5), RunsOutside .long (.notRmRnCe q m n) s [.reg n] fun t =>
      BitsAt (s.width q) (fun i => !(s.reg m).getLsbD i) (t.reg n)) ∧
    (∀ (m n : BitVec 4), Runs .short (.orRmRn m n) s [.reg (lo n)] fun t =>
      BitsAt (s.width false) (fun i => (s.reg (lo n)).getLsbD i || (s.reg (lo m)).getLsbD i) (t.reg (lo n))) ∧
    (∀ (q : Bool) (m n : BitVec 5), RunsOutside .long (.orRmRnCe q m n) s [.reg n] fun t =>
      BitsAt (s.width q) (fun i => (s.reg n).getLsbD i || (s.reg m).getLsbD i) (t.reg n)) ∧
    (∀ (imm : BitVec 8), Runs .short (.orImm8R0 imm) s [.reg 0#5] fun t =>
      BitsAt (s.width false) (fun i => (s.reg 0#5).getLsbD i || imm.getLsbD i) (t.reg 0#5)) ∧
    (∀ (imm : BitVec 12) (n : BitVec 4), RunsOutside .long (.orImm12sRn imm n) s [.reg (lo n)] fun t =>
      BitsAt (s.width false) (fun i => (s.reg (lo n)).getLsbD i || imm.getLsbD (min i 11)) (t.reg (lo n))) ∧
    (∀ (m : BitVec 4) (imm : BitVec 8) (n : BitVec 4), RunsOutside .long (.orRmImm8Rn m imm n) s [.reg (lo n)] fun t
      => BitsAt (s.width false) (fun i => (s.reg (lo m)).getLsbD i || imm.getLsbD i) (t.reg (lo n))) ∧
    (∀ (m : BitVec 5) (imm : BitVec 6) (n : BitVec 5), RunsOutside .long (.orRmImm6Rn m imm n) s [.reg n] fun t =>
      BitsAt (s.width false) (fun i => (s.reg m).getLsbD i || imm.getLsbD i) (t.reg n)) ∧
    (∀ (q : Bool) (m o n : BitVec 5), RunsOutside .long (.orRmRoRn q m o n) s [.reg n] fun t =>
      BitsAt (s.width q) (fun i => (s.reg m).getLsbD i || (s.reg o).getLsbD i) (t.reg n)) ∧
    (∀ (m n : BitVec 4), Runs .short (.xorRmRn m n) s [.reg (lo n)] fun t =>
      BitsAt (s.width false) (fun i => (s.reg (lo n)).getLsbD i ^^ (s.reg (lo m)).getLsbD i) (t.reg (lo n))) ∧
    (∀ (q : Bool) (m n : BitVec 5), RunsOutside .long (.xorRmRnCe q m n) s [.reg n] fun t =>
      BitsAt (s.width q) (fun i => (s.reg n).getLsbD i ^^ (s.reg m).getLsbD i) (t.reg n)) ∧
    (∀ (imm : BitVec 8), Runs .short (.xorImm8R0 imm) s [.reg 0#5] fun t =>
      BitsAt (s.width false) (fun i => (s.reg 0#5).getLsbD i ^^ imm.getLsbD i) (t.reg 0#5)) ∧
    (∀ (imm : BitVec 12) (n : BitVec 4), RunsOutside .long (.xorImm12sRn imm n) s [.reg (lo n)] fun t =>
      BitsAt (s.width false) (fun i => (s.reg (lo n)).getLsbD i ^^ imm.getLsbD (min i 11)) (t.reg (lo n))) ∧
    (∀ (q : Bool) (imm : BitVec 10) (n : BitVec 5), RunsOutside .long (.xorImm10sRn q imm n) s [.reg n] fun t =>
      BitsAt (s.width q) (fun i => (s.reg n).getLsbD i ^^ imm.getLsbD (min i 9)) (t.reg n)) ∧
    (∀ (m : BitVec 4) (imm : BitVec 8) (n : BitVec 4), RunsOutside .long (.xorRmImm8Rn m imm n) s [.reg (lo n)] fun t
      => BitsAt (s.width false) (fun i => (s.reg (lo m)).getLsbD i ^^ imm.getLsbD i) (t.reg (lo n))) ∧
    (∀ (m : BitVec 5) (imm : BitVec 6) (n : BitVec 5), RunsOutside .long (.xorRmImm6Rn m imm n) s [.reg n] fun t =>
      BitsAt (s.width false) (fun i => (s.reg m).getLsbD i ^^ imm.getLsbD i) (t.reg n)) ∧
    (∀ (q : Bool) (m o n : BitVec 5), RunsOutside .long (.xorRmRoRn q m o n) s [.reg n] fun t =>
      BitsAt (s.width q) (fun i => (s.reg m).getLsbD i ^^ (s.reg o).getLsbD i) (t.reg n)) ∧
    (∀ (m n : BitVec 4), Runs .short (.tstRmRn m n) s [.t] fun t => (t.flagT = true ↔
      ∀ i < (s.width false), ((s.reg (lo n)).getLsbD i && (s.reg (lo m)).getLsbD i) = false)) ∧
    (∀ (q : Bool) (m n : BitVec 5), RunsOutside .long (.tstRmRnCe q m n) s [.t] fun t => (t.flagT = true ↔
      ∀ i < (s.width q), ((s.reg n).getLsbD i && (s.reg m).getLsbD i) = false)) ∧
    (∀ (imm : BitVec 8), Runs .short (.tstImm8R0 imm) s [.t] fun t => (t.flagT = true ↔
      ∀ i < (s.width false), ((s.reg 0#5).getLsbD i && imm.getLsbD i) = false)) ∧
    (∀ (imm : BitVec 12) (n : BitVec 4), RunsOutside .long (.tstImm12sRn imm n) s [.t] fun t => (t.flagT = true ↔
      ∀ i < (s.width false), ((s.reg (lo n)).getLsbD i && imm.getLsbD (min i 11)) = false)) ∧
    (∀ (q : Bool) (imm : BitVec 10) (n : BitVec 5), RunsOutside .long (.tstImm10sRn q imm n) s [.t] fun t =>
      (t.flagT = true ↔ ∀ i < (s.width q), ((s.reg n).getLsbD i && imm.getLsbD (min i 9)) = false))

/-- EXTS.B, .W, .L leave in Rn the sign-extended and EXTU.B, .W, .L the zero-extended low Byte, Word or DWord of Rm, or
of Rn in the one-operand forms, whatever SR.DQ is. SWAP.B exchanges the two low Bytes and SWAP.W the two low Words
of the source and copies every other bit; XTRCT leaves the low Word of the left operand above the high Word of the
low half of the right one, sign-extended from bit 31. Nothing else changes. Admitting the forms marked ? and the
split of CEeD-6nmF between EXTU.L and EXTU.W is log 9; which Bytes and Words SWAP exchanges is taken from outside
the source (log 45) and their upper bits are the decision D43 (log 14); a 32-bit form is stated outside a delay slot
(decision D14, log 18). -/
def Obligations.ExtensionsAndSwapsRun : Prop :=
  ∀ s : State,
    (∀ (n : BitVec 4), Runs .short (.extsBRn n) s [.reg (lo n)] fun t =>
      (t.reg (lo n)).toInt = signedLow 8 (s.reg (lo n))) ∧
    (∀ (m n : BitVec 4), Runs .short (.extsBRmRn m n) s [.reg (lo n)] fun t =>
      (t.reg (lo n)).toInt = signedLow 8 (s.reg (lo m))) ∧
    (∀ (m n : BitVec 5), RunsOutside .long (.extsBRmRnCe m n) s [.reg n] fun t =>
      (t.reg n).toInt = signedLow 8 (s.reg m)) ∧
    (∀ (n : BitVec 4), Runs .short (.extsL n) s [.reg (lo n)] fun t =>
      (t.reg (lo n)).toInt = signedLow 32 (s.reg (lo n))) ∧
    (∀ (n : BitVec 4), Runs .short (.extsWRn n) s [.reg (lo n)] fun t =>
      (t.reg (lo n)).toInt = signedLow 16 (s.reg (lo n))) ∧
    (∀ (m n : BitVec 4), Runs .short (.extsWRmRn m n) s [.reg (lo n)] fun t =>
      (t.reg (lo n)).toInt = signedLow 16 (s.reg (lo m))) ∧
    (∀ (m n : BitVec 5), RunsOutside .long (.extsWRmRnCe m n) s [.reg n] fun t =>
      (t.reg n).toInt = signedLow 16 (s.reg m)) ∧
    (∀ (n : BitVec 4), Runs .short (.extuBRn n) s [.reg (lo n)] fun t =>
      (t.reg (lo n)).toNat = unsignedLow 8 (s.reg (lo n))) ∧
    (∀ (m n : BitVec 4), Runs .short (.extuBRmRn m n) s [.reg (lo n)] fun t =>
      (t.reg (lo n)).toNat = unsignedLow 8 (s.reg (lo m))) ∧
    (∀ (m n : BitVec 5), RunsOutside .long (.extuBRmRnCe m n) s [.reg n] fun t =>
      (t.reg n).toNat = unsignedLow 8 (s.reg m)) ∧
    (∀ (n : BitVec 4), Runs .short (.extuLRn n) s [.reg (lo n)] fun t =>
      (t.reg (lo n)).toNat = unsignedLow 32 (s.reg (lo n))) ∧
    (∀ (m n : BitVec 5), RunsOutside .long (.extuLRmRn m n) s [.reg n] fun t =>
      (t.reg n).toNat = unsignedLow 32 (s.reg m)) ∧
    (∀ (n : BitVec 4), Runs .short (.extuWRn n) s [.reg (lo n)] fun t =>
      (t.reg (lo n)).toNat = unsignedLow 16 (s.reg (lo n))) ∧
    (∀ (m n : BitVec 4), Runs .short (.extuWRmRn m n) s [.reg (lo n)] fun t =>
      (t.reg (lo n)).toNat = unsignedLow 16 (s.reg (lo m))) ∧
    (∀ (m n : BitVec 5), RunsOutside .long (.extuWRmRnCe m n) s [.reg n] fun t =>
      (t.reg n).toNat = unsignedLow 16 (s.reg m)) ∧
    (∀ (n : BitVec 4), Runs .short (.swapBRn n) s [.reg (lo n)] fun t =>
      BitsAt 64 (fun i => (s.reg (lo n)).getLsbD (if i < 8 then i + 8 else if i < 16 then i - 8 else i)) (t.reg (lo
      n))) ∧
    (∀ (m n : BitVec 5), RunsOutside .long (.swapBRmRn m n) s [.reg n] fun t =>
      BitsAt 64 (fun i => (s.reg m).getLsbD (if i < 8 then i + 8 else if i < 16 then i - 8 else i)) (t.reg n)) ∧
    (∀ (n : BitVec 4), Runs .short (.swapWRn n) s [.reg (lo n)] fun t =>
      BitsAt 64 (fun i => (s.reg (lo n)).getLsbD (if i < 16 then i + 16 else if i < 32 then i - 16 else i)) (t.reg
      (lo n))) ∧
    (∀ (m n : BitVec 5), RunsOutside .long (.swapWRmRn m n) s [.reg n] fun t =>
      BitsAt 64 (fun i => (s.reg m).getLsbD (if i < 16 then i + 16 else if i < 32 then i - 16 else i)) (t.reg n)) ∧
    (Runs .short .xtrctR4R0 s [.reg 0#5] fun t =>
      BitsAt 32 (fun i => if i < 16 then (s.reg 0#5).getLsbD (i + 16) else (s.reg 4#5).getLsbD (i - 16)) (t.reg 0#5))
      ∧
    (Runs .short .xtrctR0R4 s [.reg 4#5] fun t =>
      BitsAt 32 (fun i => if i < 16 then (s.reg 4#5).getLsbD (i + 16) else (s.reg 0#5).getLsbD (i - 16)) (t.reg 4#5))

/-- Each of the eight leaves in Rn the low W bits moved by one place, with the bit that enters (T, the bit that leaves,
the old top bit, or 0) at bit 0 or bit W-1 and bit W-1 repeated above, and T holding the bit that left. Nothing else
changes; the operation width is the decision D4 to D6 the spec marks as its own (log 12). -/
def Obligations.OneBitShiftsRun : Prop :=
  ∀ s : State,
    (∀ (n : BitVec 4), Runs .short (.rotcl n) s [.reg (lo n), .t] fun t =>
      BitsAt (s.width false) (fun i => if i = 0 then s.flagT else (s.reg (lo n)).getLsbD (i - 1)) (t.reg (lo n)) ∧
      t.flagT = (s.reg (lo n)).getLsbD ((s.width false) - 1)) ∧
    (∀ (n : BitVec 4), Runs .short (.rotcr n) s [.reg (lo n), .t] fun t =>
      BitsAt (s.width false) (fun i => if i = (s.width false) - 1 then s.flagT else (s.reg (lo n)).getLsbD (i + 1))
      (t.reg (lo n)) ∧
      t.flagT = (s.reg (lo n)).getLsbD 0) ∧
    (∀ (n : BitVec 4), Runs .short (.rotl n) s [.reg (lo n), .t] fun t =>
      BitsAt (s.width false) (fun i => if i = 0 then (s.reg (lo n)).getLsbD ((s.width false) - 1) else (s.reg (lo
      n)).getLsbD (i - 1)) (t.reg (lo n)) ∧
      t.flagT = (s.reg (lo n)).getLsbD ((s.width false) - 1)) ∧
    (∀ (n : BitVec 4), Runs .short (.rotr n) s [.reg (lo n), .t] fun t =>
      BitsAt (s.width false) (fun i => if i = (s.width false) - 1 then (s.reg (lo n)).getLsbD 0 else (s.reg (lo
      n)).getLsbD (i + 1)) (t.reg (lo n)) ∧
      t.flagT = (s.reg (lo n)).getLsbD 0) ∧
    (∀ (n : BitVec 4), Runs .short (.shal n) s [.reg (lo n), .t] fun t =>
      BitsAt (s.width false) (fun i => if i = 0 then false else (s.reg (lo n)).getLsbD (i - 1)) (t.reg (lo n)) ∧
      t.flagT = (s.reg (lo n)).getLsbD ((s.width false) - 1)) ∧
    (∀ (n : BitVec 4), Runs .short (.shll n) s [.reg (lo n), .t] fun t =>
      BitsAt (s.width false) (fun i => if i = 0 then false else (s.reg (lo n)).getLsbD (i - 1)) (t.reg (lo n)) ∧
      t.flagT = (s.reg (lo n)).getLsbD ((s.width false) - 1)) ∧
    (∀ (n : BitVec 4), Runs .short (.sharRn n) s [.reg (lo n), .t] fun t =>
      BitsAt (s.width false) (fun i => if i = (s.width false) - 1 then (s.reg (lo n)).getLsbD ((s.width false) - 1)
      else (s.reg (lo n)).getLsbD (i + 1)) (t.reg (lo n)) ∧
      t.flagT = (s.reg (lo n)).getLsbD 0) ∧
    (∀ (n : BitVec 4), Runs .short (.shlrRn n) s [.reg (lo n), .t] fun t =>
      BitsAt (s.width false) (fun i => if i = (s.width false) - 1 then false else (s.reg (lo n)).getLsbD (i + 1))
      (t.reg (lo n)) ∧
      t.flagT = (s.reg (lo n)).getLsbD 0)

/-- SHLL2, 4, 8, 16 leave Rn times the power of two cut to W bits and sign-extended; SHLR2, 4, 8, 16 leave the low W
bits shifted right with zeroes entering, bit W-1 repeated above; SHAL.Q, SHLR.Q and SHAR.Q with an immediate from 0
to 63 shift all 64 bits of Rm into Rn. T and everything else keep their values; the operation width is the decision
D4 to D6 the spec marks as its own (log 12); a 32-bit form is stated outside a delay slot (decision D14, log 18). -/
def Obligations.FixedShiftsRun : Prop :=
  ∀ s : State,
    (∀ (n : BitVec 4), Runs .short (.shll2 n) s [.reg (lo n)] fun t =>
      Wraps (s.width false) ((s.reg (lo n)).toInt * 2 ^ 2) (t.reg (lo n))) ∧
    (∀ (n : BitVec 4), Runs .short (.shll4 n) s [.reg (lo n)] fun t =>
      Wraps (s.width false) ((s.reg (lo n)).toInt * 2 ^ 4) (t.reg (lo n))) ∧
    (∀ (n : BitVec 4), Runs .short (.shll8 n) s [.reg (lo n)] fun t =>
      Wraps (s.width false) ((s.reg (lo n)).toInt * 2 ^ 8) (t.reg (lo n))) ∧
    (∀ (n : BitVec 4), Runs .short (.shll16 n) s [.reg (lo n)] fun t =>
      Wraps (s.width false) ((s.reg (lo n)).toInt * 2 ^ 16) (t.reg (lo n))) ∧
    (∀ (n : BitVec 4), Runs .short (.shlr2 n) s [.reg (lo n)] fun t =>
      BitsAt (s.width false) (fun i => decide (i + 2 < (s.width false)) && (s.reg (lo n)).getLsbD (i + 2)) (t.reg (lo
      n))) ∧
    (∀ (n : BitVec 4), Runs .short (.shlr4 n) s [.reg (lo n)] fun t =>
      BitsAt (s.width false) (fun i => decide (i + 4 < (s.width false)) && (s.reg (lo n)).getLsbD (i + 4)) (t.reg (lo
      n))) ∧
    (∀ (n : BitVec 4), Runs .short (.shlr8 n) s [.reg (lo n)] fun t =>
      BitsAt (s.width false) (fun i => decide (i + 8 < (s.width false)) && (s.reg (lo n)).getLsbD (i + 8)) (t.reg (lo
      n))) ∧
    (∀ (n : BitVec 4), Runs .short (.shlr16 n) s [.reg (lo n)] fun t =>
      BitsAt (s.width false) (fun i => decide (i + 16 < (s.width false)) && (s.reg (lo n)).getLsbD (i + 16)) (t.reg
      (lo n))) ∧
    (∀ (m : BitVec 5) (imm : BitVec 6) (n : BitVec 5), RunsOutside .long (.shalQ m imm n) s [.reg n] fun t =>
      (t.reg n).toNat = (s.reg m).toNat * 2 ^ imm.toNat % 2 ^ 64) ∧
    (∀ (m : BitVec 5) (imm : BitVec 6) (n : BitVec 5), RunsOutside .long (.shlrQ m imm n) s [.reg n] fun t =>
      (t.reg n).toNat = (s.reg m).toNat / 2 ^ imm.toNat) ∧
    (∀ (m : BitVec 5) (imm : BitVec 6) (n : BitVec 5), RunsOutside .long (.sharQ m imm n) s [.reg n] fun t =>
      (t.reg n).toInt = (s.reg m).toInt / 2 ^ imm.toNat)

/-- The word 4n14 decodes to ROT32 Rn, 4n38 to SHLL32 Rn and 4n39 to SHLR32 Rn. ROT32 leaves Rn with its halves
exchanged; SHLL32 leaves the low half above 32 zeroes; SHLR32 leaves 32 zeroes above the high half. No flag and
nothing else changes. Follows R221, R240, R247. -/
def Obligations.Fixed64BitShiftsRun : Prop :=
  ∀ (s : State) (n : BitVec 4),
    Decodes [word 0x4#4 n 0x1#4 0x4#4] (.rot32 n) ∧
    Runs .short (.rot32 n) s [.reg (lo n)] (fun t =>
      ∀ i < 32, (t.reg (lo n)).getLsbD i = (s.reg (lo n)).getLsbD (i + 32) ∧
        (t.reg (lo n)).getLsbD (i + 32) = (s.reg (lo n)).getLsbD i) ∧
    Decodes [word 0x4#4 n 0x3#4 0x8#4] (.shll32 n) ∧
    Runs .short (.shll32 n) s [.reg (lo n)] (fun t =>
      ∀ i < 32, (t.reg (lo n)).getLsbD i = false ∧
        (t.reg (lo n)).getLsbD (i + 32) = (s.reg (lo n)).getLsbD i) ∧
    Decodes [word 0x4#4 n 0x3#4 0x9#4] (.shlr32 n) ∧
    Runs .short (.shlr32 n) s [.reg (lo n)] (fun t =>
      ∀ i < 32, (t.reg (lo n)).getLsbD i = (s.reg (lo n)).getLsbD (i + 32) ∧
        (t.reg (lo n)).getLsbD (i + 32) = false)

/-- With DQ or the form's q bit 1 the 64-bit source is shifted by the signed 64-bit amount; otherwise the low half,
sign-extended for SHAD and SHAR and zero-extended for SHLD and SHLR, is shifted by the signed low half of the amount
with SHIFT_WIDTH_DQ0 as width. An amount of 0 or more shifts left by its residue; a negative one shifts right by the
width less its residue, and with residue 0 leaves the sign or 0. SHAR and SHLR shift by the negated amount, SHAD.L
as with DQ = 0. All 64 bits are written, no flag changes. The widths and the reading of the formula are the
decisions D7 and D8 and C12 (log 13); a 32-bit form is stated outside a delay slot (decision D14, log 18). -/
def Obligations.BarrelShiftsRun : Prop :=
  ∀ s : State,
    (∀ (m n : BitVec 4), Runs .short (.shadRmRn m n) s [.reg (lo n)] fun t =>
      Wraps 64 (if s.flagDq = true then shifted (s.reg (lo n)).toInt (s.reg (lo m)).toInt 64
      else shifted (signedLow 32 (s.reg (lo n))) (signedLow 32 (s.reg (lo m))) s.launch.shiftWidthDq0) (t.reg (lo
        n))) ∧
    (∀ (q : Bool) (m n : BitVec 5), RunsOutside .long (.shadRmRnCe q m n) s [.reg n] fun t =>
      Wraps 64 (if q = true ∨ s.flagDq = true then shifted (s.reg n).toInt (s.reg m).toInt 64
      else shifted (signedLow 32 (s.reg n)) (signedLow 32 (s.reg m)) s.launch.shiftWidthDq0) (t.reg n)) ∧
    (∀ (m : BitVec 4) (imm : BitVec 8) (n : BitVec 4), RunsOutside .long (.shadRmImmRn m imm n) s [.reg (lo n)] fun t
      => Wraps 64 (if s.flagDq = true then shifted (s.reg (lo m)).toInt imm.toInt 64
      else shifted (signedLow 32 (s.reg (lo m))) imm.toInt s.launch.shiftWidthDq0) (t.reg (lo n))) ∧
    (∀ (q : Bool) (m o n : BitVec 5), RunsOutside .long (.shadRmRoRn q m o n) s [.reg n] fun t =>
      Wraps 64 (if q = true ∨ s.flagDq = true then shifted (s.reg m).toInt (s.reg o).toInt 64
      else shifted (signedLow 32 (s.reg m)) (signedLow 32 (s.reg o)) s.launch.shiftWidthDq0) (t.reg n)) ∧
    (∀ (q : Bool) (m o n : BitVec 5), RunsOutside .long (.sharRmRoRn q m o n) s [.reg n] fun t =>
      Wraps 64 (if q = true ∨ s.flagDq = true then shifted (s.reg m).toInt ((-(s.reg o).toInt).bmod (2 ^ 64)) 64
      else shifted (signedLow 32 (s.reg m)) ((-(s.reg o).toInt).bmod (2 ^ 32)) s.launch.shiftWidthDq0) (t.reg n)) ∧
    (∀ (m n : BitVec 4), Runs .short (.shldRmRn m n) s [.reg (lo n)] fun t =>
      Wraps 64 (if s.flagDq = true then shifted ((s.reg (lo n)).toNat : Int) (s.reg (lo m)).toInt 64
      else shifted ((unsignedLow 32 (s.reg (lo n)) : Int)) (signedLow 32 (s.reg (lo m))) s.launch.shiftWidthDq0)
        (t.reg (lo n))) ∧
    (∀ (m : BitVec 4) (imm : BitVec 8) (n : BitVec 4), RunsOutside .long (.shldRmImm8Rn m imm n) s [.reg (lo n)] fun
      t => Wraps 64 (if s.flagDq = true then shifted ((s.reg (lo m)).toNat : Int) imm.toInt 64
      else shifted ((unsignedLow 32 (s.reg (lo m)) : Int)) imm.toInt s.launch.shiftWidthDq0) (t.reg (lo n))) ∧
    (∀ (m : BitVec 5) (imm : BitVec 6) (n : BitVec 5), RunsOutside .long (.shldRmImm6Rn m imm n) s [.reg n] fun t =>
      Wraps 64 (if s.flagDq = true then shifted ((s.reg m).toNat : Int) imm.toInt 64
      else shifted ((unsignedLow 32 (s.reg m) : Int)) imm.toInt s.launch.shiftWidthDq0) (t.reg n)) ∧
    (∀ (q : Bool) (m o n : BitVec 5), RunsOutside .long (.shldRmRoRn q m o n) s [.reg n] fun t =>
      Wraps 64 (if q = true ∨ s.flagDq = true then shifted ((s.reg m).toNat : Int) (s.reg o).toInt 64
      else shifted ((unsignedLow 32 (s.reg m) : Int)) (signedLow 32 (s.reg o)) s.launch.shiftWidthDq0) (t.reg n)) ∧
    (∀ (q : Bool) (m o n : BitVec 5), RunsOutside .long (.shlrRmRoRn q m o n) s [.reg n] fun t =>
      Wraps 64 (if q = true ∨ s.flagDq = true then shifted ((s.reg m).toNat : Int) ((-(s.reg o).toInt).bmod (2 ^ 64))
      64
      else shifted ((unsignedLow 32 (s.reg m) : Int)) ((-(s.reg o).toInt).bmod (2 ^ 32)) s.launch.shiftWidthDq0)
        (t.reg n)) ∧
    (∀ (m : BitVec 5) (imm : BitVec 6) (n : BitVec 5), RunsOutside .long (.shadL m imm n) s [.reg n] fun t =>
      Wraps 64 (shifted (signedLow 32 (s.reg m)) imm.toInt s.launch.shiftWidthDq0) (t.reg n))

/-- LEA.B, .W, .L, .Q leave the address of @(Rm, disp), @(Rm, Ro, disp), @(Rm, Ro) (Ro neither R0 nor R15) with the
scale of the size, and LEA.B @(PC, R0) leaves PC + 4 + R0; MOVA leaves PC + 4 with its low two bits cleared plus
four times the displacement, in R0. With R0 or R15 as index register the result of LEA is undefined: the next free
value, of which nothing is known, goes to Rn and only the model's counter of free values moves on (log 43, log 46).
No memory is touched and nothing else changes. The clearing is the decision D17 (log 16), the forms with a PC
operand and the 32-bit forms are stated outside a delay slot (D14, log 18). -/
def Obligations.AddressCalculationsRun : Prop :=
  ∀ s : State,
    (∀ (n : BitVec 4), RunsOutside .short (.leaBAtPcR0Rn n) s [.reg (lo n)] fun t =>
      Wraps 64 (s.pc.toInt + 4 + (s.reg 0#5).toInt) (t.reg (lo n))) ∧
    (∀ (m o disp n : BitVec 4), o ≠ 0#4 → o ≠ 15#4 →
      RunsOutside .long (.leaBAtRmRoDisp4Rn m o disp n) s [.reg (lo n)] fun t =>
      Wraps 64 ((s.reg (lo m)).toInt + ((s.reg (lo o)).toInt + (disp.toNat : Int)) * 1) (t.reg (lo n))) ∧
    (∀ (m : BitVec 4) (disp : BitVec 8) (n : BitVec 4), RunsOutside .long (.leaBAtRmDisp8sRn m disp n) s [.reg (lo
      n)] fun t => Wraps 64 ((s.reg (lo m)).toInt + disp.toInt * 1) (t.reg (lo n))) ∧
    (∀ (m : BitVec 5) (o : BitVec 4) (n : BitVec 5), o ≠ 0#4 → o ≠ 15#4 →
      RunsOutside .long (.leaBAtRmRoRn m o n) s [.reg n] fun t =>
      Wraps 64 ((s.reg m).toInt + ((s.reg (lo o)).toInt) * 1) (t.reg n)) ∧
    (∀ (m : BitVec 5) (disp : BitVec 6) (n : BitVec 5), RunsOutside .long (.leaBAtRmDisp6Rn m disp n) s [.reg n] fun
      t => Wraps 64 ((s.reg m).toInt + (disp.toNat : Int) * 1) (t.reg n)) ∧
    (∀ (m o disp n : BitVec 4), o ≠ 0#4 → o ≠ 15#4 →
      RunsOutside .long (.leaWAtRmRoDisp4Rn m o disp n) s [.reg (lo n)] fun t =>
      Wraps 64 ((s.reg (lo m)).toInt + ((s.reg (lo o)).toInt + (disp.toNat : Int)) * 2) (t.reg (lo n))) ∧
    (∀ (m : BitVec 4) (disp : BitVec 8) (n : BitVec 4), RunsOutside .long (.leaWAtRmDisp8sRn m disp n) s [.reg (lo
      n)] fun t => Wraps 64 ((s.reg (lo m)).toInt + disp.toInt * 2) (t.reg (lo n))) ∧
    (∀ (m : BitVec 5) (o : BitVec 4) (n : BitVec 5), o ≠ 0#4 → o ≠ 15#4 →
      RunsOutside .long (.leaWAtRmRoRn m o n) s [.reg n] fun t =>
      Wraps 64 ((s.reg m).toInt + ((s.reg (lo o)).toInt) * 2) (t.reg n)) ∧
    (∀ (m : BitVec 5) (disp : BitVec 6) (n : BitVec 5), RunsOutside .long (.leaWAtRmDisp6Rn m disp n) s [.reg n] fun
      t => Wraps 64 ((s.reg m).toInt + (disp.toNat : Int) * 2) (t.reg n)) ∧
    (∀ (m o disp n : BitVec 4), o ≠ 0#4 → o ≠ 15#4 →
      RunsOutside .long (.leaLAtRmRoDisp4Rn m o disp n) s [.reg (lo n)] fun t =>
      Wraps 64 ((s.reg (lo m)).toInt + ((s.reg (lo o)).toInt + (disp.toNat : Int)) * 4) (t.reg (lo n))) ∧
    (∀ (m : BitVec 4) (disp : BitVec 8) (n : BitVec 4), RunsOutside .long (.leaLAtRmDisp8sRn m disp n) s [.reg (lo
      n)] fun t => Wraps 64 ((s.reg (lo m)).toInt + disp.toInt * 4) (t.reg (lo n))) ∧
    (∀ (m : BitVec 5) (o : BitVec 4) (n : BitVec 5), o ≠ 0#4 → o ≠ 15#4 →
      RunsOutside .long (.leaLAtRmRoRn m o n) s [.reg n] fun t =>
      Wraps 64 ((s.reg m).toInt + ((s.reg (lo o)).toInt) * 4) (t.reg n)) ∧
    (∀ (m : BitVec 5) (disp : BitVec 6) (n : BitVec 5), RunsOutside .long (.leaLAtRmDisp6Rn m disp n) s [.reg n] fun
      t => Wraps 64 ((s.reg m).toInt + (disp.toNat : Int) * 4) (t.reg n)) ∧
    (∀ (m o disp n : BitVec 4), o ≠ 0#4 → o ≠ 15#4 →
      RunsOutside .long (.leaQAtRmRoDisp4Rn m o disp n) s [.reg (lo n)] fun t =>
      Wraps 64 ((s.reg (lo m)).toInt + ((s.reg (lo o)).toInt + (disp.toNat : Int)) * 8) (t.reg (lo n))) ∧
    (∀ (m : BitVec 4) (disp : BitVec 8) (n : BitVec 4), RunsOutside .long (.leaQAtRmDisp8sRn m disp n) s [.reg (lo
      n)] fun t => Wraps 64 ((s.reg (lo m)).toInt + disp.toInt * 8) (t.reg (lo n))) ∧
    (∀ (m : BitVec 5) (o : BitVec 4) (n : BitVec 5), o ≠ 0#4 → o ≠ 15#4 →
      RunsOutside .long (.leaQAtRmRoRn m o n) s [.reg n] fun t =>
      Wraps 64 ((s.reg m).toInt + ((s.reg (lo o)).toInt) * 8) (t.reg n)) ∧
    (∀ (m : BitVec 5) (disp : BitVec 6) (n : BitVec 5), RunsOutside .long (.leaQAtRmDisp6Rn m disp n) s [.reg n] fun
      t => Wraps 64 ((s.reg m).toInt + (disp.toNat : Int) * 8) (t.reg n)) ∧
    (∀ disp : BitVec 8, RunsOutside .short (.mova disp) s [.reg 0#5] fun t =>
      (t.reg 0#5).toNat = ((s.pc.toNat + 4) % 2 ^ 64 / 4 * 4 + 4 * disp.toNat) % 2 ^ 64) ∧
    (∀ (m o disp n : BitVec 4), o = 0#4 ∨ o = 15#4 →
      RunsOutside .long (.leaBAtRmRoDisp4Rn m o disp n) s [.reg (lo n), .freeIndex] fun t =>
      t.reg (lo n) = Config.freeValue s.freeIndex ∧ t.freeIndex = s.freeIndex + 1) ∧
    (∀ (m : BitVec 5) (o : BitVec 4) (n : BitVec 5), o = 0#4 ∨ o = 15#4 →
      RunsOutside .long (.leaBAtRmRoRn m o n) s [.reg n, .freeIndex] fun t =>
      t.reg n = Config.freeValue s.freeIndex ∧ t.freeIndex = s.freeIndex + 1) ∧
    (∀ (m o disp n : BitVec 4), o = 0#4 ∨ o = 15#4 →
      RunsOutside .long (.leaWAtRmRoDisp4Rn m o disp n) s [.reg (lo n), .freeIndex] fun t =>
      t.reg (lo n) = Config.freeValue s.freeIndex ∧ t.freeIndex = s.freeIndex + 1) ∧
    (∀ (m : BitVec 5) (o : BitVec 4) (n : BitVec 5), o = 0#4 ∨ o = 15#4 →
      RunsOutside .long (.leaWAtRmRoRn m o n) s [.reg n, .freeIndex] fun t =>
      t.reg n = Config.freeValue s.freeIndex ∧ t.freeIndex = s.freeIndex + 1) ∧
    (∀ (m o disp n : BitVec 4), o = 0#4 ∨ o = 15#4 →
      RunsOutside .long (.leaLAtRmRoDisp4Rn m o disp n) s [.reg (lo n), .freeIndex] fun t =>
      t.reg (lo n) = Config.freeValue s.freeIndex ∧ t.freeIndex = s.freeIndex + 1) ∧
    (∀ (m : BitVec 5) (o : BitVec 4) (n : BitVec 5), o = 0#4 ∨ o = 15#4 →
      RunsOutside .long (.leaLAtRmRoRn m o n) s [.reg n, .freeIndex] fun t =>
      t.reg n = Config.freeValue s.freeIndex ∧ t.freeIndex = s.freeIndex + 1) ∧
    (∀ (m o disp n : BitVec 4), o = 0#4 ∨ o = 15#4 →
      RunsOutside .long (.leaQAtRmRoDisp4Rn m o disp n) s [.reg (lo n), .freeIndex] fun t =>
      t.reg (lo n) = Config.freeValue s.freeIndex ∧ t.freeIndex = s.freeIndex + 1) ∧
    (∀ (m : BitVec 5) (o : BitVec 4) (n : BitVec 5), o = 0#4 ∨ o = 15#4 →
      RunsOutside .long (.leaQAtRmRoRn m o n) s [.reg n, .freeIndex] fun t =>
      t.reg n = Config.freeValue s.freeIndex ∧ t.freeIndex = s.freeIndex + 1)

/-- For each MOV.B, MOV.W, MOVU.B and MOVU.W load form without increment: when the access is aligned, backed and its
bytes hold a value, the next state has that little-endian value in Rn, extended to 64 bits with its sign (MOV) or
with zeroes (MOVU), and nothing else changed. Where check refuses the address the instruction takes AddressError
instead (decision D19, log 19). The address is that of the form's addressing mode, which the statement
EffectiveAddresses gives; the forms with a PC operand and the 32-bit forms are stated outside a delay slot (D14, log
18). That these loads extend as they do is the decision D18 (log 21). -/
def Obligations.LoadsOfBytesAndWordsRun : Prop :=
  ∀ s : State,
    (∀ (m n : BitVec 4), RunsLoad .short (.movBAtR0RmRn m n) s (s.eaR0 (lo m)) 1 [.reg (lo n)] fun v t =>
      (t.reg (lo n)).toInt = (v : Int).bmod (2 ^ 8)) ∧
    (∀ (m n : BitVec 4), RunsLoad .short (.movBAtRmRn m n) s (s.reg (lo m)) 1 [.reg (lo n)] fun v t =>
      (t.reg (lo n)).toInt = (v : Int).bmod (2 ^ 8)) ∧
    (∀ (n : BitVec 4), s.pending = none → RunsLoad .short (.movBAtPcR0Rn n) s (s.eaPcR0) 1 [.reg (lo n)] fun v t =>
      (t.reg (lo n)).toInt = (v : Int).bmod (2 ^ 8)) ∧
    (∀ (m o disp n : BitVec 4), s.pending = none →
      RunsLoad .long (.movBAtRmRoDisp4Rn m o disp n) s (s.eaIndex .b (lo m) (lo o) (zeroExt disp)) 1 [.reg (lo n)]
      fun v t =>
      (t.reg (lo n)).toInt = (v : Int).bmod (2 ^ 8)) ∧
    (∀ (m : BitVec 4) (disp : BitVec 8) (n : BitVec 4), s.pending = none →
      RunsLoad .long (.movBAtRmDisp8sRn m disp n) s (s.eaDisp .b (lo m) (signExt disp)) 1 [.reg (lo n)] fun v t =>
      (t.reg (lo n)).toInt = (v : Int).bmod (2 ^ 8)) ∧
    (∀ (m o n : BitVec 5), s.pending = none →
      RunsLoad .long (.movBAtRmRoRn m o n) s (s.eaIndex .b m o 0#64) 1 [.reg n] fun v t =>
      (t.reg n).toInt = (v : Int).bmod (2 ^ 8)) ∧
    (∀ (m : BitVec 5) (disp : BitVec 6) (n : BitVec 5), s.pending = none →
      RunsLoad .long (.movBAtRmDisp6Rn m disp n) s (s.eaDisp .b m (zeroExt disp)) 1 [.reg n] fun v t =>
      (t.reg n).toInt = (v : Int).bmod (2 ^ 8)) ∧
    (∀ (m n : BitVec 4), RunsLoad .short (.movWAtR0RmRn m n) s (s.eaR0 (lo m)) 2 [.reg (lo n)] fun v t =>
      (t.reg (lo n)).toInt = (v : Int).bmod (2 ^ 16)) ∧
    (∀ (n : BitVec 4), s.pending = none → RunsLoad .short (.movWAtPcR0Rn n) s (s.eaPcR0) 2 [.reg (lo n)] fun v t =>
      (t.reg (lo n)).toInt = (v : Int).bmod (2 ^ 16)) ∧
    (∀ (m n : BitVec 4), RunsLoad .short (.movWAtRmRn m n) s (s.reg (lo m)) 2 [.reg (lo n)] fun v t =>
      (t.reg (lo n)).toInt = (v : Int).bmod (2 ^ 16)) ∧
    (∀ (disp : BitVec 8) (n : BitVec 4), s.pending = none →
      RunsLoad .short (.movWAtPcDisp8Rn disp n) s (s.eaPcDispW disp) 2 [.reg (lo n)] fun v t =>
      (t.reg (lo n)).toInt = (v : Int).bmod (2 ^ 16)) ∧
    (∀ (m o disp n : BitVec 4), s.pending = none →
      RunsLoad .long (.movWAtRmRoDisp4Rn m o disp n) s (s.eaIndex .w (lo m) (lo o) (zeroExt disp)) 2 [.reg (lo n)]
      fun v t =>
      (t.reg (lo n)).toInt = (v : Int).bmod (2 ^ 16)) ∧
    (∀ (m : BitVec 4) (disp : BitVec 8) (n : BitVec 4), s.pending = none →
      RunsLoad .long (.movWAtRmDisp8sRn m disp n) s (s.eaDisp .w (lo m) (signExt disp)) 2 [.reg (lo n)] fun v t =>
      (t.reg (lo n)).toInt = (v : Int).bmod (2 ^ 16)) ∧
    (∀ (m o n : BitVec 5), s.pending = none →
      RunsLoad .long (.movWAtRmRoRn m o n) s (s.eaIndex .w m o 0#64) 2 [.reg n] fun v t =>
      (t.reg n).toInt = (v : Int).bmod (2 ^ 16)) ∧
    (∀ (m : BitVec 5) (disp : BitVec 6) (n : BitVec 5), s.pending = none →
      RunsLoad .long (.movWAtRmDisp6Rn m disp n) s (s.eaDisp .w m (zeroExt disp)) 2 [.reg n] fun v t =>
      (t.reg n).toInt = (v : Int).bmod (2 ^ 16)) ∧
    (∀ (m : BitVec 4) (disp : BitVec 8) (n : BitVec 4), s.pending = none →
      RunsLoad .long (.movuBAtRmDisp8sRn m disp n) s (s.eaDisp .b (lo m) (signExt disp)) 1 [.reg (lo n)] fun v t =>
      (t.reg (lo n)).toNat = v) ∧
    (∀ (m : BitVec 5) (disp : BitVec 6) (n : BitVec 5), s.pending = none →
      RunsLoad .long (.movuBAtRmDisp6Rn m disp n) s (s.eaDisp .b m (zeroExt disp)) 1 [.reg n] fun v t =>
      (t.reg n).toNat = v) ∧
    (∀ (m : BitVec 4) (disp : BitVec 8) (n : BitVec 4), s.pending = none →
      RunsLoad .long (.movuWAtRmDisp8sRn m disp n) s (s.eaDisp .w (lo m) (signExt disp)) 2 [.reg (lo n)] fun v t =>
      (t.reg (lo n)).toNat = v) ∧
    (∀ (m : BitVec 5) (disp : BitVec 6) (n : BitVec 5), s.pending = none →
      RunsLoad .long (.movuWAtRmDisp6Rn m disp n) s (s.eaDisp .w m (zeroExt disp)) 2 [.reg n] fun v t =>
      (t.reg n).toNat = v)

/-- For each MOV.L, MOVU.L and MOV.Q load form without increment: when the access is aligned, backed and its bytes hold
a value, the next state has that little-endian value in Rn, extended to 64 bits with its sign (MOV.L) or with zeroes
(MOVU.L), and nothing else changed. Where check refuses the address the instruction takes AddressError instead
(decision D19, log 19). The address is that of the form's addressing mode, which the statement EffectiveAddresses
gives; the forms with a PC operand and the 32-bit forms are stated outside a delay slot (D14, log 18). That MOV.L
sign-extends is the decision D18 (log 21); that MOV.L @(PC, disp8) clears the low two bits of PC + 4 is the decision
D17 (log 16); that SP is R15 is the decision D20 (log 22); the special cases of Ro = R0 and R15 in @(Rm, Ro) are the
decision D44 (log 23). -/
def Obligations.LoadsOfDwordsAndQwordsRun : Prop :=
  ∀ s : State,
    (∀ (m n : BitVec 4), RunsLoad .short (.movLAtR0RmRn m n) s (s.eaR0 (lo m)) 4 [.reg (lo n)] fun v t =>
      (t.reg (lo n)).toInt = (v : Int).bmod (2 ^ 32)) ∧
    (∀ (m disp n : BitVec 4), RunsLoad .short (.movLAtRmDisp4Rn m disp n) s (s.eaDisp .l (lo m) (zeroExt disp)) 4
      [.reg (lo n)] fun v t =>
      (t.reg (lo n)).toInt = (v : Int).bmod (2 ^ 32)) ∧
    (∀ (m n : BitVec 4), RunsLoad .short (.movLAtRmRn m n) s (s.reg (lo m)) 4 [.reg (lo n)] fun v t =>
      (t.reg (lo n)).toInt = (v : Int).bmod (2 ^ 32)) ∧
    (∀ (disp : BitVec 8) (n : BitVec 4), s.pending = none →
      RunsLoad .short (.movLAtPcDisp8Rn disp n) s (s.eaPcDispL disp) 4 [.reg (lo n)] fun v t =>
      (t.reg (lo n)).toInt = (v : Int).bmod (2 ^ 32)) ∧
    (∀ (n : BitVec 4), s.pending = none → RunsLoad .short (.movLAtPcR0Rn n) s (s.eaPcR0) 4 [.reg (lo n)] fun v t =>
      (t.reg (lo n)).toInt = (v : Int).bmod (2 ^ 32)) ∧
    (∀ (m o disp n : BitVec 4), s.pending = none →
      RunsLoad .long (.movLAtRmRoDisp4Rn m o disp n) s (s.eaIndex .l (lo m) (lo o) (zeroExt disp)) 4 [.reg (lo n)]
      fun v t =>
      (t.reg (lo n)).toInt = (v : Int).bmod (2 ^ 32)) ∧
    (∀ (m o : BitVec 4) (disp : BitVec 8) (n : BitVec 4), s.pending = none →
      RunsLoad .long (.movLAtRmRoDisp8sRn m o disp n) s (s.eaIndex .l (lo m) (lo o) (signExt disp)) 4 [.reg (lo n)]
      fun v t =>
      (t.reg (lo n)).toInt = (v : Int).bmod (2 ^ 32)) ∧
    (∀ (m : BitVec 4) (disp : BitVec 8) (n : BitVec 4), s.pending = none →
      RunsLoad .long (.movLAtRmDisp8sRn m disp n) s (s.eaDisp .l (lo m) (signExt disp)) 4 [.reg (lo n)] fun v t =>
      (t.reg (lo n)).toInt = (v : Int).bmod (2 ^ 32)) ∧
    (∀ (m o n : BitVec 5), s.pending = none →
      RunsLoad .long (.movLAtRmRoRn m o n) s (s.eaIndex .l m o 0#64) 4 [.reg n] fun v t =>
      (t.reg n).toInt = (v : Int).bmod (2 ^ 32)) ∧
    (∀ (m : BitVec 5) (disp : BitVec 6) (n : BitVec 5), s.pending = none →
      RunsLoad .long (.movLAtRmDisp6Rn m disp n) s (s.eaDisp .l m (zeroExt disp)) 4 [.reg n] fun v t =>
      (t.reg n).toInt = (v : Int).bmod (2 ^ 32)) ∧
    (∀ (m n : BitVec 4), RunsLoad .short (.movQAtR0RmRn m n) s (s.eaR0 (lo m)) 8 [.reg (lo n)] fun v t =>
      (t.reg (lo n)).toInt = (v : Int).bmod (2 ^ 64)) ∧
    (∀ (n : BitVec 4), s.pending = none → RunsLoad .short (.movQAtPcR0Rn n) s (s.eaPcR0) 8 [.reg (lo n)] fun v t =>
      (t.reg (lo n)).toInt = (v : Int).bmod (2 ^ 64)) ∧
    (∀ (m n : BitVec 4), RunsLoad .short (.movQAtRmRn m n) s (s.reg (lo m)) 8 [.reg (lo n)] fun v t =>
      (t.reg (lo n)).toInt = (v : Int).bmod (2 ^ 64)) ∧
    (∀ (disp n : BitVec 4), RunsLoad .short (.movQAtSpDisp4Rn disp n) s (s.eaDisp .q regSp (zeroExt disp)) 8 [.reg
      (lo n)] fun v t =>
      (t.reg (lo n)).toInt = (v : Int).bmod (2 ^ 64)) ∧
    (∀ (m o disp n : BitVec 4), s.pending = none →
      RunsLoad .long (.movQAtRmRoDisp4Rn m o disp n) s (s.eaIndex .q (lo m) (lo o) (zeroExt disp)) 8 [.reg (lo n)]
      fun v t =>
      (t.reg (lo n)).toInt = (v : Int).bmod (2 ^ 64)) ∧
    (∀ (m : BitVec 4) (disp : BitVec 8) (n : BitVec 4), s.pending = none →
      RunsLoad .long (.movQAtRmDisp8sRn m disp n) s (s.eaDisp .q (lo m) (signExt disp)) 8 [.reg (lo n)] fun v t =>
      (t.reg (lo n)).toInt = (v : Int).bmod (2 ^ 64)) ∧
    (∀ (m o n : BitVec 5), s.pending = none →
      RunsLoad .long (.movQAtRmRoRn m o n) s (s.eaIndex .q m o 0#64) 8 [.reg n] fun v t =>
      (t.reg n).toInt = (v : Int).bmod (2 ^ 64)) ∧
    (∀ (m : BitVec 5) (disp : BitVec 6) (n : BitVec 5), s.pending = none →
      RunsLoad .long (.movQAtRmDisp6Rn m disp n) s (s.eaDisp .q m (zeroExt disp)) 8 [.reg n] fun v t =>
      (t.reg n).toInt = (v : Int).bmod (2 ^ 64)) ∧
    (∀ (m : BitVec 4) (disp : BitVec 8) (n : BitVec 4), s.pending = none →
      RunsLoad .long (.movuLAtRmDisp8sRn m disp n) s (s.eaDisp .l (lo m) (signExt disp)) 4 [.reg (lo n)] fun v t =>
      (t.reg (lo n)).toNat = v) ∧
    (∀ (m : BitVec 5) (disp : BitVec 6) (n : BitVec 5), s.pending = none →
      RunsLoad .long (.movuLAtRmDisp6Rn m disp n) s (s.eaDisp .l m (zeroExt disp)) 4 [.reg n] fun v t =>
      (t.reg n).toNat = v)

/-- When the access at Rm (R15 for POP) is aligned, backed and holds a value, the next state has the value sign-extended
in Rn and, unless it is the same register, Rm increased by the size; nothing else changes. Where check refuses the
address AddressError is taken with no register changed (decision D19, log 19). That the value is sign-extended is
the decision D18 (log 21). That the loaded value wins is the decision D22 (log 21), that SP is R15 and POP's
direction the decisions D20 and D21 (log 22). -/
def Obligations.LoadsWithIncrementRun : Prop :=
  ∀ s : State,
    (∀ (m n : BitVec 4), RunsLoad .short (.movBIncRmRn m n) s (s.reg (lo m)) 1 [.reg (lo m), .reg (lo n)] fun v t =>
      (t.reg (lo n)).toInt = (v : Int).bmod (2 ^ 8) ∧ ((lo m) ≠ (lo n) → t.reg (lo m) = s.reg (lo m) + 1#64)) ∧
    (∀ (m n : BitVec 4), RunsLoad .short (.movWIncRmRn m n) s (s.reg (lo m)) 2 [.reg (lo m), .reg (lo n)] fun v t =>
      (t.reg (lo n)).toInt = (v : Int).bmod (2 ^ 16) ∧ ((lo m) ≠ (lo n) → t.reg (lo m) = s.reg (lo m) + 2#64)) ∧
    (∀ (m n : BitVec 4), RunsLoad .short (.movLIncRmRn m n) s (s.reg (lo m)) 4 [.reg (lo m), .reg (lo n)] fun v t =>
      (t.reg (lo n)).toInt = (v : Int).bmod (2 ^ 32) ∧ ((lo m) ≠ (lo n) → t.reg (lo m) = s.reg (lo m) + 4#64)) ∧
    (∀ (m n : BitVec 4), RunsLoad .short (.movQIncRmRn m n) s (s.reg (lo m)) 8 [.reg (lo m), .reg (lo n)] fun v t =>
      (t.reg (lo n)).toInt = (v : Int).bmod (2 ^ 64) ∧ ((lo m) ≠ (lo n) → t.reg (lo m) = s.reg (lo m) + 8#64)) ∧
    (∀ (n : BitVec 4), RunsLoad .short (.popQRn n) s (s.reg 15#5) 8 [.reg 15#5, .reg (lo n)] fun v t =>
      (t.reg (lo n)).toInt = (v : Int).bmod (2 ^ 64) ∧ (15#5 ≠ (lo n) → t.reg 15#5 = s.reg 15#5 + 8#64)) ∧
    (∀ (n : BitVec 4), RunsLoad .short (.popQRnHi n) s (s.reg 15#5) 8 [.reg 15#5, .reg (hi n)] fun v t =>
      (t.reg (hi n)).toInt = (v : Int).bmod (2 ^ 64) ∧ (15#5 ≠ (hi n) → t.reg 15#5 = s.reg 15#5 + 8#64))

/-- For each MOV.B, MOV.W, MOV.L and MOV.Q store form without decrement and MOVCA.L: when the access is aligned and
writable, the bytes from the effective address on hold the low bytes of Rm (R0 for MOVCA.L) little endian, and no
other byte, no register and no flag changes. Where check refuses the address the instruction takes AddressError
instead (decision D19, log 19). The address is that of the form's addressing mode, which the statement
EffectiveAddresses gives; the forms with a PC operand and the 32-bit forms are stated outside a delay slot (D14, log
18). That SP is R15 is the decision D20 (log 22). -/
def Obligations.StoresRun : Prop :=
  ∀ s : State,
    (∀ (m n : BitVec 4), RunsStore .short (.movBRmAtR0Rn m n) s (s.eaR0 (lo n)) 1 (s.reg (lo m)).toNat [] fun _ =>
      True) ∧
    (∀ (m n : BitVec 4), RunsStore .short (.movBRmAtRn m n) s (s.reg (lo n)) 1 (s.reg (lo m)).toNat [] fun _ => True)
      ∧
    (∀ (m : BitVec 4), s.pending = none →
      RunsStore .short (.movBRmAtPcR0 m) s (s.eaPcR0) 1 (s.reg (lo m)).toNat [] fun _ => True) ∧
    (∀ (m n o disp : BitVec 4), s.pending = none →
      RunsStore .long (.movBRmAtRnRoDisp4 m n o disp) s (s.eaIndex .b (lo n) (lo o) (zeroExt disp)) 1 (s.reg (lo
      m)).toNat [] fun _ => True) ∧
    (∀ (m n : BitVec 4) (disp : BitVec 8), s.pending = none →
      RunsStore .long (.movBRmAtRnDisp8s m n disp) s (s.eaDisp .b (lo n) (signExt disp)) 1 (s.reg (lo m)).toNat []
      fun _ => True) ∧
    (∀ (m n o : BitVec 5), s.pending = none →
      RunsStore .long (.movBRmAtRnRo m n o) s (s.eaIndex .b n o 0#64) 1 (s.reg m).toNat [] fun _ => True) ∧
    (∀ (m n : BitVec 5) (disp : BitVec 6), s.pending = none →
      RunsStore .long (.movBRmAtRnDisp6 m n disp) s (s.eaDisp .b n (zeroExt disp)) 1 (s.reg m).toNat [] fun _ =>
      True) ∧
    (∀ (m n : BitVec 4), RunsStore .short (.movWRmAtR0Rn m n) s (s.eaR0 (lo n)) 2 (s.reg (lo m)).toNat [] fun _ =>
      True) ∧
    (∀ (m n : BitVec 4), RunsStore .short (.movWRmAtRn m n) s (s.reg (lo n)) 2 (s.reg (lo m)).toNat [] fun _ => True)
      ∧
    (∀ (m : BitVec 4), s.pending = none →
      RunsStore .short (.movWRmAtPcR0 m) s (s.eaPcR0) 2 (s.reg (lo m)).toNat [] fun _ => True) ∧
    (∀ (m n o disp : BitVec 4), s.pending = none →
      RunsStore .long (.movWRmAtRnRoDisp4 m n o disp) s (s.eaIndex .w (lo n) (lo o) (zeroExt disp)) 2 (s.reg (lo
      m)).toNat [] fun _ => True) ∧
    (∀ (m n : BitVec 4) (disp : BitVec 8), s.pending = none →
      RunsStore .long (.movWRmAtRnDisp8s m n disp) s (s.eaDisp .w (lo n) (signExt disp)) 2 (s.reg (lo m)).toNat []
      fun _ => True) ∧
    (∀ (m n o : BitVec 5), s.pending = none →
      RunsStore .long (.movWRmAtRnRo m n o) s (s.eaIndex .w n o 0#64) 2 (s.reg m).toNat [] fun _ => True) ∧
    (∀ (m n : BitVec 5) (disp : BitVec 6), s.pending = none →
      RunsStore .long (.movWRmAtRnDisp6 m n disp) s (s.eaDisp .w n (zeroExt disp)) 2 (s.reg m).toNat [] fun _ =>
      True) ∧
    (∀ (m n : BitVec 4), RunsStore .short (.movLRmAtR0Rn m n) s (s.eaR0 (lo n)) 4 (s.reg (lo m)).toNat [] fun _ =>
      True) ∧
    (∀ (m n disp : BitVec 4), RunsStore .short (.movLRmAtRnDisp4 m n disp) s (s.eaDisp .l (lo n) (zeroExt disp)) 4
      (s.reg (lo m)).toNat [] fun _ => True) ∧
    (∀ (m n : BitVec 4), RunsStore .short (.movLRmAtRn m n) s (s.reg (lo n)) 4 (s.reg (lo m)).toNat [] fun _ => True)
      ∧
    (∀ (m : BitVec 4), s.pending = none →
      RunsStore .short (.movLRmAtPcR0 m) s (s.eaPcR0) 4 (s.reg (lo m)).toNat [] fun _ => True) ∧
    (∀ (m n o disp : BitVec 4), s.pending = none →
      RunsStore .long (.movLRmAtRnRoDisp4 m n o disp) s (s.eaIndex .l (lo n) (lo o) (zeroExt disp)) 4 (s.reg (lo
      m)).toNat [] fun _ => True) ∧
    (∀ (m n o : BitVec 4) (disp : BitVec 8), s.pending = none →
      RunsStore .long (.movLRmAtRnRoDisp8s m n o disp) s (s.eaIndex .l (lo n) (lo o) (signExt disp)) 4 (s.reg (lo
      m)).toNat [] fun _ => True) ∧
    (∀ (m n : BitVec 4) (disp : BitVec 8), s.pending = none →
      RunsStore .long (.movLRmAtRnDisp8s m n disp) s (s.eaDisp .l (lo n) (signExt disp)) 4 (s.reg (lo m)).toNat []
      fun _ => True) ∧
    (∀ (m n o : BitVec 5), s.pending = none →
      RunsStore .long (.movLRmAtRnRo m n o) s (s.eaIndex .l n o 0#64) 4 (s.reg m).toNat [] fun _ => True) ∧
    (∀ (m n : BitVec 5) (disp : BitVec 6), s.pending = none →
      RunsStore .long (.movLRmAtRnDisp6 m n disp) s (s.eaDisp .l n (zeroExt disp)) 4 (s.reg m).toNat [] fun _ =>
      True) ∧
    (∀ (m n : BitVec 4), RunsStore .short (.movQRmAtR0Rn m n) s (s.eaR0 (lo n)) 8 (s.reg (lo m)).toNat [] fun _ =>
      True) ∧
    (∀ (m n : BitVec 4), RunsStore .short (.movQRmAtRn m n) s (s.reg (lo n)) 8 (s.reg (lo m)).toNat [] fun _ => True)
      ∧
    (∀ (m : BitVec 4), s.pending = none →
      RunsStore .short (.movQRmAtPcR0 m) s (s.eaPcR0) 8 (s.reg (lo m)).toNat [] fun _ => True) ∧
    (∀ (m disp : BitVec 4), RunsStore .short (.movQRmAtSpDisp4 m disp) s (s.eaDisp .q regSp (zeroExt disp)) 8 (s.reg
      (lo m)).toNat [] fun _ => True) ∧
    (∀ (m n o disp : BitVec 4), s.pending = none →
      RunsStore .long (.movQRmAtRnRoDisp4 m n o disp) s (s.eaIndex .q (lo n) (lo o) (zeroExt disp)) 8 (s.reg (lo
      m)).toNat [] fun _ => True) ∧
    (∀ (m n : BitVec 4) (disp : BitVec 8), s.pending = none →
      RunsStore .long (.movQRmAtRnDisp8s m n disp) s (s.eaDisp .q (lo n) (signExt disp)) 8 (s.reg (lo m)).toNat []
      fun _ => True) ∧
    (∀ (m n o : BitVec 5), s.pending = none →
      RunsStore .long (.movQRmAtRnRo m n o) s (s.eaIndex .q n o 0#64) 8 (s.reg m).toNat [] fun _ => True) ∧
    (∀ (m n : BitVec 5) (disp : BitVec 6), s.pending = none →
      RunsStore .long (.movQRmAtRnDisp6 m n disp) s (s.eaDisp .q n (zeroExt disp)) 8 (s.reg m).toNat [] fun _ =>
      True) ∧
    (∀ (n : BitVec 4), RunsStore .short (.movcaL n) s (s.reg (lo n)) 4 (s.reg 0#5).toNat [] fun _ => True)

/-- When the access at Rn less the size (R15 for PUSH) is aligned and writable, the bytes there hold the value Rm had
before, Rn is decreased by the size, and no other byte or register changes. Where check refuses the address
AddressError is taken with no register changed (decision D19, log 19). That the old value is stored is the decision
D22 (log 21), that SP is R15 and PUSH's direction the decisions D20 and D21 (log 22). -/
def Obligations.StoresWithDecrementRun : Prop :=
  ∀ s : State,
    (∀ (m n : BitVec 4), RunsStore .short (.movBRmDecRn m n) s (s.reg (lo n) - 1#64) 1 (s.reg (lo m)).toNat [.reg (lo
      n)] fun t =>
      t.reg (lo n) = s.reg (lo n) - 1#64) ∧
    (∀ (m n : BitVec 4), RunsStore .short (.movWRmDecRn m n) s (s.reg (lo n) - 2#64) 2 (s.reg (lo m)).toNat [.reg (lo
      n)] fun t =>
      t.reg (lo n) = s.reg (lo n) - 2#64) ∧
    (∀ (m n : BitVec 4), RunsStore .short (.movLRmDecRn m n) s (s.reg (lo n) - 4#64) 4 (s.reg (lo m)).toNat [.reg (lo
      n)] fun t =>
      t.reg (lo n) = s.reg (lo n) - 4#64) ∧
    (∀ (m n : BitVec 4), RunsStore .short (.movQRmDecRn m n) s (s.reg (lo n) - 8#64) 8 (s.reg (lo m)).toNat [.reg (lo
      n)] fun t =>
      t.reg (lo n) = s.reg (lo n) - 8#64) ∧
    (∀ (m : BitVec 4), RunsStore .short (.pushQRm m) s (s.reg 15#5 - 8#64) 8 (s.reg (lo m)).toNat [.reg 15#5] fun t =>
      t.reg 15#5 = s.reg 15#5 - 8#64) ∧
    (∀ (m : BitVec 4), RunsStore .short (.pushQRmHi m) s (s.reg 15#5 - 8#64) 8 (s.reg (hi m)).toNat [.reg 15#5] fun t
      =>
      t.reg 15#5 = s.reg 15#5 - 8#64)

/-- When the DWord at R0 is readable with value v: if v is the low half of R5 and the DWord is writable, its bytes
become the low half of R4, T is 1 and R4 is v sign-extended; if v differs, memory is unchanged, T is 0 and R4 is v
sign-extended. Nothing else changes. An address that check refuses for reading, or for writing when the values are
equal, raises AddressError. An address that may be read but not written, with unequal values: under casCheck
whenEqual (R260) the instruction completes, under always (R433: both accesses are checked before either)
AddressError is raised, before the read; the spec does not rank the two rules, and that both are in the launch is
the model's choice (log 24). The rest is the decision D30 the spec marks as its own (log 24), the order of the
checks D25 (log 30), what check refuses D19 (log 19). -/
def Obligations.CompareAndSwapRuns : Prop :=
  ∀ s : State,
    (s.accessOk .read (s.reg 0#5) 4 = false → exec .casL s = raise (.addressError (s.reg 0#5) .read) s) ∧
    (s.launch.casCheck = .always → s.accessOk .read (s.reg 0#5) 4 = true → s.accessOk .write (s.reg 0#5) 4 = false →
      exec .casL s = raise (.addressError (s.reg 0#5) .write) s) ∧
    ∀ v : Nat, s.Loads (s.reg 0#5) 4 v →
      ((v : Int).bmod (2 ^ 32) = signedLow 32 (s.reg 5#5) → s.Stores (s.reg 0#5) 4 →
        Runs .short .casL s ([.reg 4#5, .t] ++ s.bytesAt (s.reg 0#5) 4) fun t =>
          t.Holds (s.reg 0#5) 4 (s.reg 4#5).toNat ∧ t.flagT = true ∧ (t.reg 4#5).toInt = (v : Int).bmod (2 ^ 32)) ∧
      ((v : Int).bmod (2 ^ 32) = signedLow 32 (s.reg 5#5) → s.accessOk .write (s.reg 0#5) 4 = false →
        exec .casL s = raise (.addressError (s.reg 0#5) .write) s) ∧
      ((v : Int).bmod (2 ^ 32) ≠ signedLow 32 (s.reg 5#5) →
        s.launch.casCheck = .whenEqual ∨ s.accessOk .write (s.reg 0#5) 4 = true →
        Runs .short .casL s [.reg 4#5, .t] fun t =>
          t.flagT = false ∧ (t.reg 4#5).toInt = (v : Int).bmod (2 ^ 32))

/-- BF and BT go to PC + len + 2 + twice the signed label when T is 0 or 1 and to the next instruction otherwise; BRA/N
always goes to the label; BSR/N also leaves the address after itself in PR. No delayed branch is pending after them
and nothing else changes, outside a delay slot (D14, log 18). The label scale and base are the decisions D11 and D12
(log 16), PR's value for BSR/N is the spec's (log 16). -/
def Obligations.BranchesWithoutSlotRun : Prop :=
  ∀ s : State,
    (∀ (label : BitVec 8), Jumps (.bfLabel8s label) s [] (fun _ => True) fun a =>
      (s.flagT = false → Wraps 64 (s.pc.toInt + 4 + 2 * label.toInt) a) ∧ (s.flagT ≠ false → a = s.pc + 2#64)) ∧
    (∀ (label : BitVec 16), Jumps (.bfLabel16s label) s [] (fun _ => True) fun a =>
      (s.flagT = false → Wraps 64 (s.pc.toInt + 6 + 2 * label.toInt) a) ∧ (s.flagT ≠ false → a = s.pc + 4#64)) ∧
    (∀ (label : BitVec 8), Jumps (.btLabel8s label) s [] (fun _ => True) fun a =>
      (s.flagT = true → Wraps 64 (s.pc.toInt + 4 + 2 * label.toInt) a) ∧ (s.flagT ≠ true → a = s.pc + 2#64)) ∧
    (∀ (label : BitVec 16), Jumps (.btLabel16s label) s [] (fun _ => True) fun a =>
      (s.flagT = true → Wraps 64 (s.pc.toInt + 6 + 2 * label.toInt) a) ∧ (s.flagT ≠ true → a = s.pc + 4#64)) ∧
    (∀ (label : BitVec 8), Jumps (.braNLabel8s label) s [] (fun _ => True) fun a => Wraps 64 (s.pc.toInt + 4 + 2 *
      label.toInt) a) ∧
    (∀ (label : BitVec 16), Jumps (.braNLabel16s label) s [] (fun _ => True) fun a => Wraps 64 (s.pc.toInt + 6 + 2 *
      label.toInt) a) ∧
    (∀ label : BitVec 16, Jumps (.bsrN label) s [.pr] (fun t => t.pr = s.pc + 4#64) fun a => Wraps 64 (s.pc.toInt + 6
      + 2 * label.toInt) a)

/-- Each leaves PC at the next instruction and a delayed branch pending to its target: the label, PC + 4 + Rn, PR, or
Rn; a conditional one that is not taken has the address after the slot as target. BSR, BSRF and JSR leave PC + 4 in
PR. With JMP_JSR_DELAYED false JMP and JSR go to Rn at once and JSR leaves PC + 2 in PR. Nothing else changes,
outside a delay slot. The delay slot's meaning is from outside the source and its list the decision D14 (log 18),
the label scale and base the decisions D11 and D12 (log 16), the slot and link of JMP and JSR D13 (log 17). -/
def Obligations.DelayedBranchesRun : Prop :=
  ∀ s : State,
    (∀ (label : BitVec 8), Delays .short (.bfSLabel8s label) s [] (fun _ => True) fun a =>
      (s.flagT = false → Wraps 64 (s.pc.toInt + 4 + 2 * label.toInt) a) ∧ (s.flagT ≠ false → a = s.pc + 4#64)) ∧
    (∀ (label : BitVec 16), Delays .long (.bfSLabel16s label) s [] (fun _ => True) fun a =>
      (s.flagT = false → Wraps 64 (s.pc.toInt + 6 + 2 * label.toInt) a) ∧ (s.flagT ≠ false → a = s.pc + 6#64)) ∧
    (∀ (label : BitVec 8), Delays .short (.btSLabel8s label) s [] (fun _ => True) fun a =>
      (s.flagT = true → Wraps 64 (s.pc.toInt + 4 + 2 * label.toInt) a) ∧ (s.flagT ≠ true → a = s.pc + 4#64)) ∧
    (∀ (label : BitVec 16), Delays .long (.btSLabel16s label) s [] (fun _ => True) fun a =>
      (s.flagT = true → Wraps 64 (s.pc.toInt + 6 + 2 * label.toInt) a) ∧ (s.flagT ≠ true → a = s.pc + 6#64)) ∧
    (∀ label : BitVec 12, Delays .short (.bra label) s [] (fun _ => True) fun a => Wraps 64 (s.pc.toInt + 4 + 2 *
      label.toInt) a) ∧
    (∀ label : BitVec 12, Delays .short (.bsr label) s [.pr] (fun t => t.pr = s.pc + 4#64) fun a => Wraps 64
      (s.pc.toInt + 4 + 2 * label.toInt) a) ∧
    (∀ n : BitVec 4, Delays .short (.braf n) s [] (fun _ => True) fun a => Wraps 64 (s.pc.toInt + 4 + (s.reg (lo
      n)).toInt) a) ∧
    (∀ n : BitVec 4, Delays .short (.bsrf n) s [.pr] (fun t => t.pr = s.pc + 4#64) fun a => Wraps 64 (s.pc.toInt + 4
      + (s.reg (lo n)).toInt) a) ∧
    (Delays .short .rts s [] (fun _ => True) fun a => a = s.pr) ∧
    (∀ n : BitVec 4,
    (s.launch.jmpJsrDelayed = true →
      Delays .short (.jmp n) s [] (fun _ => True) (fun a => a = s.reg (lo n)) ∧
      Delays .short (.jsr n) s [.pr] (fun t => t.pr = s.pc + 4#64) (fun a => a = s.reg (lo n))) ∧
    (s.launch.jmpJsrDelayed = false →
      Jumps (.jmp n) s [] (fun _ => True) (fun a => a = s.reg (lo n)) ∧
      Jumps (.jsr n) s [.pr] (fun t => t.pr = s.pc + 2#64) (fun a => a = s.reg (lo n))))

/-- Outside a delay slot, with SSR.JQ = 1, RTE leaves SR equal to SSR in all bits, R15 equal to SGR, the delay slot next
and SPC as target, and nothing else changed; with SSR.JQ = 0 it is refused. The order against the slot is the
decision D24 (log 31), the refusal the decision D48 (log 28). -/
def Obligations.ReturnFromExceptionRuns : Prop :=
  ∀ s : State,
    (jqOf s.ssr = true →
      Delays .short .rte s (.reg 15#5 :: Part.allSr) (fun t => t.sr = s.ssr ∧
        t.reg 15#5 = s.sgr) fun a => a = s.spc) ∧
    (jqOf s.ssr = false → s.pending = none → exec .rte s = .refused (.srJqClear s.pc))

/-- With TRAP_ENTRY = vector, from a state of SR.JQ = 1 in no delay slot: TRAPA enters the handler, and RTE executed
right there leaves the delay slot next and a delayed branch to the address after TRAPA, with SR, R15, every other
register, every flag and memory as before TRAPA but SPC, SSR and SGR; the record of the trap stays. Both rest on the
decision D24 (log 31). -/
def Obligations.TrapThenReturnRestores : Prop :=
  ∀ (s : State) (k : BitVec 8), s.pending = none → jqOf s.sr = true → s.launch.trapEntry = .vector →
    ∃ u t, exec (.trapa k) s = .next u ∧ exec .rte u = .next t ∧
      t.pending = some ⟨s.pc + 2#64, s.vbr + s.launch.vecGeneral⟩ ∧
      t.pc = s.vbr + s.launch.vecGeneral + 2#64 ∧ t.sr = s.sr ∧
      t.records.length = s.records.length + 1 ∧ s.KeepsBut t [.spc, .ssr, .sgr, .records]

/-- MOV.x @Rm+, Rm leaves the loaded value; MOV.x Rn, @-Rn stores the old value; after JSR @Rn (with JMP_JSR_DELAYED) a
slot that changes Rn, ADD #imm8s, Rn, still goes on at the Rn the JSR read; after RTS a slot that changes PR, LDS
Rm, PR, still goes on at the old PR; LDS Rm, PR in the slot of a BSR overwrites the link the BSR wrote. The order
with one register as base and data is the decision D22 (log 21), the slot and link of JSR the decision D13 (log 17),
the meaning of a delay slot is from outside the source and what may stand in it the decision D14 (log 18). -/
def Obligations.SlotSeesTheBranch : Prop :=
  ∀ (s : State) (n m : BitVec 4),
    (∀ v, s.Loads (s.reg (lo n)) 8 v → ∃ t, exec (.movQIncRmRn n n) s = .next t ∧ (t.reg (lo n)).toNat = v) ∧
    (∀ v, s.Loads (s.reg (lo n)) 4 v →
      ∃ t, exec (.movLIncRmRn n n) s = .next t ∧ (t.reg (lo n)).toInt = (v : Int).bmod (2 ^ 32)) ∧
    (∀ v, s.Loads (s.reg (lo n)) 2 v →
      ∃ t, exec (.movWIncRmRn n n) s = .next t ∧ (t.reg (lo n)).toInt = (v : Int).bmod (2 ^ 16)) ∧
    (∀ v, s.Loads (s.reg (lo n)) 1 v →
      ∃ t, exec (.movBIncRmRn n n) s = .next t ∧ (t.reg (lo n)).toInt = (v : Int).bmod (2 ^ 8)) ∧
    (s.Stores (s.reg (lo n) - 8#64) 8 → ∃ t, exec (.movQRmDecRn n n) s = .next t ∧
      t.Holds (s.reg (lo n) - 8#64) 8 (s.reg (lo n)).toNat) ∧
    (s.Stores (s.reg (lo n) - 4#64) 4 → ∃ t, exec (.movLRmDecRn n n) s = .next t ∧
      t.Holds (s.reg (lo n) - 4#64) 4 (s.reg (lo n)).toNat) ∧
    (s.Stores (s.reg (lo n) - 2#64) 2 → ∃ t, exec (.movWRmDecRn n n) s = .next t ∧
      t.Holds (s.reg (lo n) - 2#64) 2 (s.reg (lo n)).toNat) ∧
    (s.Stores (s.reg (lo n) - 1#64) 1 → ∃ t, exec (.movBRmDecRn n n) s = .next t ∧
      t.Holds (s.reg (lo n) - 1#64) 1 (s.reg (lo n)).toNat) ∧
    (s.pending = none → s.launch.jmpJsrDelayed = true → ∀ k : BitVec 8, ∃ t u, exec (.jsr n) s = .next t ∧
      exec (.addImm8sRn k n) t = .next u ∧ u.pc = s.reg (lo n)) ∧
    (s.pending = none → ∃ t u, exec .rts s = .next t ∧ exec (.ldsRmPr m) t = .next u ∧
      u.pc = s.pr ∧ u.pr = s.reg (lo m)) ∧
    (s.pending = none → ∀ label : BitVec 12, ∃ t u, exec (.bsr label) s = .next t ∧ t.pr = s.pc + 4#64 ∧
      exec (.ldsRmPr m) t = .next u ∧ u.pr = s.reg (lo m))

/-- The words 0018, 0008, 0058, 0048, 0028, 0009 and 0i09 for i from 1 to 14 decode to SETT, CLRT, SETS, CLRS, CLRMAC,
NOP and NOP #i, and 0F09 to nothing. SETT and CLRT set and clear T, SETS and CLRS set and clear S, CLRMAC clears
MACH and MACL, NOP does nothing; no other flag and nothing else changes. Follows R331, R332, R333, R339, R341, R342. -/
def Obligations.FlagInstructionsRun : Prop :=
  (∀ s : State,
      Runs .short .sett s [.t] (fun t => t.flagT = true) ∧ Runs .short .clrt s [.t] (fun t => t.flagT = false) ∧
      Runs .short .sets s [.s] (fun t => t.flagS = true) ∧ Runs .short .clrs s [.s] (fun t => t.flagS = false) ∧
      Runs .short .clrmac s [.mach, .macl] (fun t => t.mach = 0#32 ∧ t.macl = 0#32) ∧
      Runs .short .nop s [] (fun _ => True) ∧ (∀ i : BitVec 4, Runs .short (.nopImm i) s [] fun _ => True)) ∧
    Decodes [0x0018#16] .sett ∧ Decodes [0x0008#16] .clrt ∧ Decodes [0x0058#16] .sets ∧ Decodes [0x0048#16] .clrs ∧
    Decodes [0x0028#16] .clrmac ∧ Decodes [0x0009#16] .nop ∧
    (∀ i : BitVec 4, i ≠ 0#4 → i ≠ 15#4 → Decodes [word 0x0#4 i 0x0#4 0x9#4] (.nopImm i)) ∧
    ∀ rest, decode (wordsBytes [0x0F09#16] ++ rest) = .rejected (.unlisted16 0x0F09#16)

/-- Outside a delay slot TRAPA #imm8 takes the exception Trap(imm8); with TRAP_ENTRY = vector that is the next state at
VBR + VEC_GENERAL with SPC = PC + 2. BRK answers the next state in which the run has ended, one Breakpoint record is
added and nothing else, PC included, changes. SLEEP answers the next state that sleeps, PC unchanged. LDTLB is
refused in every state. The ends are the decisions D41 and D31 (log 33), the entry D24 (log 31), the refusal D32
(log 34). -/
def Obligations.TrapBreakSleepAndTlb : Prop :=
  ∀ s : State,
    (∀ k : BitVec 8, s.pending = none →
      exec (.trapa k) s = raise (.trap k) s ∧
      (s.launch.trapEntry = .vector → ∃ t, exec (.trapa k) s = .next t ∧ t.spc = s.pc + 2#64 ∧
        t.pc = s.vbr + s.launch.vecGeneral)) ∧
    (∃ t, exec .brk s = .next t ∧ t.runEnded = true ∧ t.pc = s.pc ∧ t.pending = s.pending ∧
      (∃ r, t.records = s.records ++ [r] ∧ r.cause = .breakpoint ∧ r.ia = s.pc) ∧
      s.KeepsBut t [.records, .runEnded]) ∧
    (∃ t, exec .sleep s = .next t ∧ t.sleeping = true ∧ t.pc = s.pc ∧ t.pending = s.pending ∧
      s.KeepsBut t [.sleeping]) ∧
    exec .ldtlb s = .refused (.ldtlb s.pc)

/-- LDC and LDS write GBR, VBR, SPC, DBR, PR or a banked register whole and SSR, MACH, MACL, FPUL, FPSCR from the low
half of Rm; LDC to SR writes Rm AND SR_WRITE_MASK and is refused when that has JQ = 0; LDS to FPSCR is refused when
the value sets FR or a declared VE bit. STC leaves GBR, VBR, SPC, DBR or a banked register whole, SR AND
SR_READ_MASK and SSR zero-extended; STS leaves PR whole and MACH, MACL, FPUL, FPSCR sign-extended in Rn. Nothing
else changes. FPUL and FPSCR are stated with an FPU present. The widths and the sign extension of STS are the
decisions D23 and D6 (log 26), that STC zero-extends SR and SSR is R344; the masks are D40 (log 25), the refusals
D48 and D51 (log 28, log 29); the STC rows but DBR are from general knowledge (D49, log 9). -/
def Obligations.ControlRegisterMovesRun : Prop :=
  ∀ s : State,
    (∀ (m : BitVec 4), Runs .short (.ldcRmGbr m) s [.gbr] fun t => t.gbr = s.reg (lo m)) ∧
    (∀ (m : BitVec 4), Runs .short (.ldcRmVbr m) s [.vbr] fun t => t.vbr = s.reg (lo m)) ∧
    (∀ (m : BitVec 4), Runs .short (.ldcRmSpc m) s [.spc] fun t => t.spc = s.reg (lo m)) ∧
    (∀ (m : BitVec 4), Runs .short (.ldcRmDbr m) s [.dbr] fun t => t.dbr = s.reg (lo m)) ∧
    (∀ (m : BitVec 4), Runs .short (.ldsRmPr m) s [.pr] fun t => t.pr = s.reg (lo m)) ∧
    (∀ (m : BitVec 4) (b : BitVec 3), Runs .short (.ldcRmBank m b) s [.bank b] fun t => t.bankReg b = s.reg (lo m)) ∧
    (∀ (m : BitVec 4), Runs .short (.ldcRmSsr m) s [.ssr] fun t => t.ssr.toNat = unsignedLow 32 (s.reg (lo m))) ∧
    (∀ (m : BitVec 4), Runs .short (.ldsRmMach m) s [.mach] fun t => t.mach.toNat = unsignedLow 32 (s.reg (lo m))) ∧
    (∀ (m : BitVec 4), Runs .short (.ldsRmMacl m) s [.macl] fun t => t.macl.toNat = unsignedLow 32 (s.reg (lo m))) ∧
    (∀ (m : BitVec 4), s.FpuPresent → Runs .short (.ldsRmFpul m) s [.fpul] fun t =>
      t.fpul.toNat = unsignedLow 32 (s.reg (lo m))) ∧
    (∀ m : BitVec 4, (jqOf (lowDword (s.reg (lo m)) &&& s.launch.srWriteMask) = true →
      Runs .short (.ldcRmSr m) s Part.allSr fun t =>
        ∀ i < 32, t.sr.getLsbD i = ((s.reg (lo m)).getLsbD i && s.launch.srWriteMask.getLsbD i)) ∧
      (jqOf (lowDword (s.reg (lo m)) &&& s.launch.srWriteMask) = false →
        exec (.ldcRmSr m) s = .refused (.srJqClear s.pc))) ∧
    (∀ m : BitVec 4, s.FpuPresent →
      (fpscrBad s.launch (lowDword (s.reg (lo m))) = false →
        Runs .short (.ldsRmFpscr m) s [.fpscr] fun t => t.fpscr.toNat = unsignedLow 32 (s.reg (lo m))) ∧
      (fpscrBad s.launch (lowDword (s.reg (lo m))) = true →
        exec (.ldsRmFpscr m) s = .refused (.fpscrUnsupported s.pc))) ∧
    (∀ (n : BitVec 4), Runs .short (.stcGbrRn n) s [.reg (lo n)] fun t => t.reg (lo n) = s.gbr) ∧
    (∀ (n : BitVec 4), Runs .short (.stcVbrRn n) s [.reg (lo n)] fun t => t.reg (lo n) = s.vbr) ∧
    (∀ (n : BitVec 4), Runs .short (.stcSpcRn n) s [.reg (lo n)] fun t => t.reg (lo n) = s.spc) ∧
    (∀ (n : BitVec 4), Runs .short (.stcDbrRn n) s [.reg (lo n)] fun t => t.reg (lo n) = s.dbr) ∧
    (∀ (b : BitVec 3) (n : BitVec 4), Runs .short (.stcBankRn b n) s [.reg (lo n)] fun t =>
      t.reg (lo n) = s.bankReg b) ∧
    (∀ (n : BitVec 4), Runs .short (.stsPrRn n) s [.reg (lo n)] fun t => t.reg (lo n) = s.pr) ∧
    (∀ (n : BitVec 4), Runs .short (.stcSrRn n) s [.reg (lo n)] fun t =>
      (t.reg (lo n)).toNat = (s.sr &&& s.launch.srReadMask).toNat) ∧
    (∀ (n : BitVec 4), Runs .short (.stcSsrRn n) s [.reg (lo n)] fun t => (t.reg (lo n)).toNat = s.ssr.toNat) ∧
    (∀ (n : BitVec 4), Runs .short (.stsMachRn n) s [.reg (lo n)] fun t => (t.reg (lo n)).toInt = s.mach.toInt) ∧
    (∀ (n : BitVec 4), Runs .short (.stsMaclRn n) s [.reg (lo n)] fun t => (t.reg (lo n)).toInt = s.macl.toInt) ∧
    (∀ (n : BitVec 4), s.FpuPresent → Runs .short (.stsFpulRn n) s [.reg (lo n)] fun t =>
      (t.reg (lo n)).toInt = s.fpul.toInt) ∧
    (∀ (n : BitVec 4), s.FpuPresent → Runs .short (.stsFpscrRn n) s [.reg (lo n)] fun t =>
      (t.reg (lo n)).toInt = s.fpscr.toInt)

/-- When the four bytes at Rm are readable, the 64-bit registers take their value sign-extended and the 32-bit ones take
it whole, SR masked and FPSCR under the refusals of LDC and LDS, and Rm is increased by 4; nothing else changes, and
a refused address raises AddressError (decision D19, log 19). The four bytes and the sign extension are the decision
D23 (log 26), the refusals D48 and D51 (log 28, log 29). -/
def Obligations.LoadsOfControlRegistersFromMemoryRun : Prop :=
  ∀ s : State,
    (∀ m : BitVec 4, RunsLoad .short (.ldcLIncRmGbr m) s (s.reg (lo m)) 4 [.reg (lo m), .gbr] fun v t =>
      t.gbr.toInt = (v : Int).bmod (2 ^ 32) ∧ t.reg (lo m) = s.reg (lo m) + 4#64) ∧
    (∀ m : BitVec 4, RunsLoad .short (.ldcLIncRmVbr m) s (s.reg (lo m)) 4 [.reg (lo m), .vbr] fun v t =>
      t.vbr.toInt = (v : Int).bmod (2 ^ 32) ∧ t.reg (lo m) = s.reg (lo m) + 4#64) ∧
    (∀ m : BitVec 4, RunsLoad .short (.ldcLIncRmSpc m) s (s.reg (lo m)) 4 [.reg (lo m), .spc] fun v t =>
      t.spc.toInt = (v : Int).bmod (2 ^ 32) ∧ t.reg (lo m) = s.reg (lo m) + 4#64) ∧
    (∀ m : BitVec 4, RunsLoad .short (.ldcLIncRmDbr m) s (s.reg (lo m)) 4 [.reg (lo m), .dbr] fun v t =>
      t.dbr.toInt = (v : Int).bmod (2 ^ 32) ∧ t.reg (lo m) = s.reg (lo m) + 4#64) ∧
    (∀ m : BitVec 4, RunsLoad .short (.ldsLIncRmPr m) s (s.reg (lo m)) 4 [.reg (lo m), .pr] fun v t =>
      t.pr.toInt = (v : Int).bmod (2 ^ 32) ∧ t.reg (lo m) = s.reg (lo m) + 4#64) ∧
    (∀ (m : BitVec 4) (b : BitVec 3), RunsLoad .short (.ldcLIncRmBank m b) s (s.reg (lo m)) 4 [.reg (lo m), .bank b]
      fun v t =>
      (t.bankReg b).toInt = (v : Int).bmod (2 ^ 32) ∧ t.reg (lo m) = s.reg (lo m) + 4#64) ∧
    (∀ m : BitVec 4, RunsLoad .short (.ldcLIncRmSsr m) s (s.reg (lo m)) 4 [.reg (lo m), .ssr] fun v t =>
      t.ssr.toNat = v ∧ t.reg (lo m) = s.reg (lo m) + 4#64) ∧
    (∀ m : BitVec 4, RunsLoad .short (.ldsLIncRmMach m) s (s.reg (lo m)) 4 [.reg (lo m), .mach] fun v t =>
      t.mach.toNat = v ∧ t.reg (lo m) = s.reg (lo m) + 4#64) ∧
    (∀ m : BitVec 4, RunsLoad .short (.ldsLIncRmMacl m) s (s.reg (lo m)) 4 [.reg (lo m), .macl] fun v t =>
      t.macl.toNat = v ∧ t.reg (lo m) = s.reg (lo m) + 4#64) ∧
    (∀ m : BitVec 4, s.FpuPresent →
      RunsLoad .short (.ldsLIncRmFpul m) s (s.reg (lo m)) 4 [.reg (lo m), .fpul] fun v t =>
      t.fpul.toNat = v ∧ t.reg (lo m) = s.reg (lo m) + 4#64) ∧
    (∀ m : BitVec 4, (s.accessOk .read (s.reg (lo m)) 4 = false →
        exec (.ldcLIncRmSr m) s = raise (.addressError (s.reg (lo m)) .read) s) ∧
      ∀ v : Nat, s.Loads (s.reg (lo m)) 4 v →
      (jqOf (BitVec.ofNat 32 v &&& s.launch.srWriteMask) = true →
        Runs .short (.ldcLIncRmSr m) s (.reg (lo m) :: Part.allSr) fun t =>
          t.sr = BitVec.ofNat 32 v &&& s.launch.srWriteMask ∧ t.reg (lo m) = s.reg (lo m) + 4#64) ∧
      (jqOf (BitVec.ofNat 32 v &&& s.launch.srWriteMask) = false →
        exec (.ldcLIncRmSr m) s = .refused (.srJqClear s.pc))) ∧
    (∀ m : BitVec 4, s.FpuPresent → (s.accessOk .read (s.reg (lo m)) 4 = false →
        exec (.ldsLIncRmFpscr m) s = raise (.addressError (s.reg (lo m)) .read) s) ∧
      ∀ v : Nat, s.Loads (s.reg (lo m)) 4 v →
      (fpscrBad s.launch (BitVec.ofNat 32 v) = false →
        Runs .short (.ldsLIncRmFpscr m) s [.reg (lo m), .fpscr] fun t =>
          t.fpscr.toNat = v ∧ t.reg (lo m) = s.reg (lo m) + 4#64) ∧
      (fpscrBad s.launch (BitVec.ofNat 32 v) = true →
        exec (.ldsLIncRmFpscr m) s = .refused (.fpscrUnsupported s.pc)))

/-- When the four bytes at Rn - 4 are writable, they hold the low 32 bits of the register (SR AND SR_READ_MASK for SR),
Rn is decreased by 4, and no other byte or register changes; a refused address raises AddressError with Rn unchanged
(decision D19, log 19). FPUL and FPSCR are stated with an FPU present. The rows are from general knowledge (D49, log
9), the four bytes the decision D23 (log 26). -/
def Obligations.StoresOfControlRegistersRun : Prop :=
  ∀ s : State,
    (∀ (n : BitVec 4), RunsStore .short (.stcLSrDecRn n) s (s.reg (lo n) - 4#64) 4 (s.sr &&&
      s.launch.srReadMask).toNat [.reg (lo n)] fun t =>
      t.reg (lo n) = s.reg (lo n) - 4#64) ∧
    (∀ (n : BitVec 4), RunsStore .short (.stcLGbrDecRn n) s (s.reg (lo n) - 4#64) 4 s.gbr.toNat [.reg (lo n)] fun t =>
      t.reg (lo n) = s.reg (lo n) - 4#64) ∧
    (∀ (n : BitVec 4), RunsStore .short (.stcLVbrDecRn n) s (s.reg (lo n) - 4#64) 4 s.vbr.toNat [.reg (lo n)] fun t =>
      t.reg (lo n) = s.reg (lo n) - 4#64) ∧
    (∀ (n : BitVec 4), RunsStore .short (.stcLSsrDecRn n) s (s.reg (lo n) - 4#64) 4 s.ssr.toNat [.reg (lo n)] fun t =>
      t.reg (lo n) = s.reg (lo n) - 4#64) ∧
    (∀ (n : BitVec 4), RunsStore .short (.stcLSpcDecRn n) s (s.reg (lo n) - 4#64) 4 s.spc.toNat [.reg (lo n)] fun t =>
      t.reg (lo n) = s.reg (lo n) - 4#64) ∧
    (∀ (n : BitVec 4), RunsStore .short (.stcLDbrDecRn n) s (s.reg (lo n) - 4#64) 4 s.dbr.toNat [.reg (lo n)] fun t =>
      t.reg (lo n) = s.reg (lo n) - 4#64) ∧
    (∀ (b : BitVec 3) (n : BitVec 4), RunsStore .short (.stcLBankDecRn b n) s (s.reg (lo n) - 4#64) 4 (s.bankReg
      b).toNat [.reg (lo n)] fun t =>
      t.reg (lo n) = s.reg (lo n) - 4#64) ∧
    (∀ (n : BitVec 4), RunsStore .short (.stsLMachDecRn n) s (s.reg (lo n) - 4#64) 4 s.mach.toNat [.reg (lo n)] fun t
      =>
      t.reg (lo n) = s.reg (lo n) - 4#64) ∧
    (∀ (n : BitVec 4), RunsStore .short (.stsLMaclDecRn n) s (s.reg (lo n) - 4#64) 4 s.macl.toNat [.reg (lo n)] fun t
      =>
      t.reg (lo n) = s.reg (lo n) - 4#64) ∧
    (∀ (n : BitVec 4), RunsStore .short (.stsLPrDecRn n) s (s.reg (lo n) - 4#64) 4 s.pr.toNat [.reg (lo n)] fun t =>
      t.reg (lo n) = s.reg (lo n) - 4#64) ∧
    (∀ (n : BitVec 4), s.FpuPresent →
      RunsStore .short (.stsLFpulDecRn n) s (s.reg (lo n) - 4#64) 4 s.fpul.toNat [.reg (lo n)] fun t =>
      t.reg (lo n) = s.reg (lo n) - 4#64) ∧
    (∀ (n : BitVec 4), s.FpuPresent →
      RunsStore .short (.stsLFpscrDecRn n) s (s.reg (lo n) - 4#64) 4 s.fpscr.toNat [.reg (lo n)] fun t =>
      t.reg (lo n) = s.reg (lo n) - 4#64)

/-- With an FPU present: under PR = 0 the result of the function of FP_NUMERICS on FRn and FRm, with RM, goes to FRn;
under PR = 1 that on the pairs, with Double, goes to the pair n (odd numbers need the Normal profile). FMAC takes
FR0, FRm, FRn; FIPR the four products of two vectors into the last element of FVn; both under PR = 0. No flag, no
bit of FPSCR and nothing else changes. The numeric functions are the decision D34 (log 37, log 38, log 39), FMAC and
FIPR's operands are from general knowledge (log 45), pairs are D35 (log 44). -/
def Obligations.FloatArithmeticRuns : Prop :=
  ∀ s : State, s.FpuPresent →
    (∀ m n : BitVec 4,
      (s.fpPr = false → Runs .short (.fadd m n) s [.fr n] fun t =>
        t.frReg n = lowDword (numAdd s.launch.fpNumerics false s.fpRm (zeroExt (s.frReg n)) (zeroExt (s.frReg m)))) ∧
      (s.fpPr = true → s.pairOk m = true → s.pairOk n = true → Runs .short (.fadd m n) s (Part.pair n) fun t =>
        t.pair n = numAdd s.launch.fpNumerics true s.fpRm (s.pair n) (s.pair m))) ∧
    (∀ m n : BitVec 4,
      (s.fpPr = false → Runs .short (.fsub m n) s [.fr n] fun t =>
        t.frReg n = lowDword (numSub s.launch.fpNumerics false s.fpRm (zeroExt (s.frReg n)) (zeroExt (s.frReg m)))) ∧
      (s.fpPr = true → s.pairOk m = true → s.pairOk n = true → Runs .short (.fsub m n) s (Part.pair n) fun t =>
        t.pair n = numSub s.launch.fpNumerics true s.fpRm (s.pair n) (s.pair m))) ∧
    (∀ m n : BitVec 4,
      (s.fpPr = false → Runs .short (.fmul m n) s [.fr n] fun t =>
        t.frReg n = lowDword (numMul s.launch.fpNumerics false s.fpRm (zeroExt (s.frReg n)) (zeroExt (s.frReg m)))) ∧
      (s.fpPr = true → s.pairOk m = true → s.pairOk n = true → Runs .short (.fmul m n) s (Part.pair n) fun t =>
        t.pair n = numMul s.launch.fpNumerics true s.fpRm (s.pair n) (s.pair m))) ∧
    (∀ m n : BitVec 4,
      (s.fpPr = false → Runs .short (.fdiv m n) s [.fr n] fun t =>
        t.frReg n = lowDword (numDiv s.launch.fpNumerics false s.fpRm (zeroExt (s.frReg n)) (zeroExt (s.frReg m)))) ∧
      (s.fpPr = true → s.pairOk m = true → s.pairOk n = true → Runs .short (.fdiv m n) s (Part.pair n) fun t =>
        t.pair n = numDiv s.launch.fpNumerics true s.fpRm (s.pair n) (s.pair m))) ∧
    (∀ n : BitVec 4,
      (s.fpPr = false → Runs .short (.fsqrt n) s [.fr n] fun t =>
        t.frReg n = lowDword (numSqrt s.launch.fpNumerics false s.fpRm (zeroExt (s.frReg n)))) ∧
      (s.fpPr = true → s.pairOk n = true → Runs .short (.fsqrt n) s (Part.pair n) fun t =>
        t.pair n = numSqrt s.launch.fpNumerics true s.fpRm (s.pair n))) ∧
    (∀ m n : BitVec 4, s.fpPr = false → Runs .short (.fmac m n) s [.fr n] fun t =>
      t.frReg n = lowDword (numMac s.launch.fpNumerics s.fpRm (zeroExt (s.frReg 0#4)) (zeroExt (s.frReg m)) (zeroExt
        (s.frReg n)))) ∧
    (∀ vm vn : BitVec 2, s.fpPr = false → Runs .short (.fipr vm vn) s [.fr (vn ++ 3#2)] fun t =>
      t.frReg (vn ++ 3#2) = lowDword (numIpr s.launch.fpNumerics s.fpRm (zeroExt (s.frReg (vn ++ 0#2))) (zeroExt
        (s.frReg (vm ++ 0#2)))
        [(zeroExt (s.frReg (vn ++ 1#2)), zeroExt (s.frReg (vm ++ 1#2))),
          (zeroExt (s.frReg (vn ++ 2#2)), zeroExt (s.frReg (vm ++ 2#2))),
          (zeroExt (s.frReg (vn ++ 3#2)), zeroExt (s.frReg (vm ++ 3#2)))]))

/-- With an FPU present: FCMPEQ and FCMPGT set T to the comparison of FRn with FRm or of the pairs; FLOAT writes the
conversion of FPUL; FTRC writes the truncation to FPUL, or a free value where the default numerics state none;
FCNVDS and FCNVSD, under PR = 1, convert between a pair and FPUL. Nothing else changes. The numeric functions are
the decision D34 (log 37, log 38); that each is given RM, which the default ignores in the compares, FTRC and
FCNVSD, is the model's reading of R372 (log 37); the open results of FTRC are log 40, pairs D35 (log 44). -/
def Obligations.FloatComparesAndConversionsRun : Prop :=
  ∀ s : State, s.FpuPresent →
    (∀ m n : BitVec 4,
      (s.fpPr = false → Runs .short (.fcmpeq m n) s [.t] fun t =>
        t.flagT = numEq s.launch.fpNumerics false s.fpRm (zeroExt (s.frReg n)) (zeroExt (s.frReg m))) ∧
      (s.fpPr = true → s.pairOk m = true → s.pairOk n = true → Runs .short (.fcmpeq m n) s [.t] fun t =>
        t.flagT = numEq s.launch.fpNumerics true s.fpRm (s.pair n) (s.pair m))) ∧
    (∀ m n : BitVec 4,
      (s.fpPr = false → Runs .short (.fcmpgt m n) s [.t] fun t =>
        t.flagT = numGt s.launch.fpNumerics false s.fpRm (zeroExt (s.frReg n)) (zeroExt (s.frReg m))) ∧
      (s.fpPr = true → s.pairOk m = true → s.pairOk n = true → Runs .short (.fcmpgt m n) s [.t] fun t =>
        t.flagT = numGt s.launch.fpNumerics true s.fpRm (s.pair n) (s.pair m))) ∧
    (∀ n : BitVec 4,
      (s.fpPr = false → Runs .short (.float n) s [.fr n] fun t =>
        t.frReg n = lowDword (numFromInt s.launch.fpNumerics false s.fpRm s.fpul)) ∧
      (s.fpPr = true → s.pairOk n = true → Runs .short (.float n) s (Part.pair n) fun t =>
        t.pair n = numFromInt s.launch.fpNumerics true s.fpRm s.fpul)) ∧
    (∀ m : BitVec 4,
      (s.fpPr = false →
        (∀ i, numToInt s.launch.fpNumerics false s.fpRm (zeroExt (s.frReg m)) = some i →
          Runs .short (.ftrc m) s [.fpul] fun t => t.fpul = i) ∧
        (numToInt s.launch.fpNumerics false s.fpRm (zeroExt (s.frReg m)) = none →
          Runs .short (.ftrc m) s [.fpul, .freeIndex] fun t =>
          t.fpul = lowDword (Config.freeValue s.freeIndex) ∧ t.freeIndex = s.freeIndex + 1)) ∧
      (s.fpPr = true → s.pairOk m = true →
        (∀ i, numToInt s.launch.fpNumerics true s.fpRm (s.pair m) = some i →
          Runs .short (.ftrc m) s [.fpul] fun t => t.fpul = i) ∧
        (numToInt s.launch.fpNumerics true s.fpRm (s.pair m) = none →
          Runs .short (.ftrc m) s [.fpul, .freeIndex] fun t =>
          t.fpul = lowDword (Config.freeValue s.freeIndex) ∧ t.freeIndex = s.freeIndex + 1))) ∧
    (∀ m : BitVec 4, s.fpPr = true → s.pairOk m = true → Runs .short (.fcnvds m) s [.fpul] fun t =>
      t.fpul = numNarrow s.launch.fpNumerics s.fpRm (s.pair m)) ∧
    (∀ n : BitVec 4, s.fpPr = true → s.pairOk n = true → Runs .short (.fcnvsd n) s (Part.pair n) fun t =>
      t.pair n = numWiden s.launch.fpNumerics s.fpRm s.fpul)

/-- With an FPU present: FABS clears and FNEG inverts the sign bit of FRn or of the pair n; FLDI0 and FLDI1 write 0.0
and 1.0; FLDS copies FRm to FPUL; FMOV copies FRm to FRn when SZ = 0 and pair m to pair n when SZ = 1. Nothing else
changes. How a pair is made of two registers is the decision D35 (log 44), FLDI1's encoding and pattern are from
general knowledge (log 9). -/
def Obligations.FloatMovesRun : Prop :=
  ∀ s : State, s.FpuPresent →
    (∀ n : BitVec 4,
      (s.fpPr = false → Runs .short (.fabs n) s [.fr n] fun t =>
        ∀ i < 32, (t.frReg n).getLsbD i = (decide (i < 31) && (s.frReg n).getLsbD i)) ∧
      (s.fpPr = true → s.pairOk n = true → Runs .short (.fabs n) s (Part.pair n) fun t =>
        ∀ i < 64, (t.pair n).getLsbD i = (decide (i < 63) && (s.pair n).getLsbD i))) ∧
    (∀ n : BitVec 4,
      (s.fpPr = false → Runs .short (.fneg n) s [.fr n] fun t =>
        ∀ i < 32, (t.frReg n).getLsbD i = (decide (i = 31) ^^ (s.frReg n).getLsbD i)) ∧
      (s.fpPr = true → s.pairOk n = true → Runs .short (.fneg n) s (Part.pair n) fun t =>
        ∀ i < 64, (t.pair n).getLsbD i = (decide (i = 63) ^^ (s.pair n).getLsbD i))) ∧
    (∀ n : BitVec 4,
      (s.fpPr = false → Runs .short (.fldi0 n) s [.fr n] fun t => t.frReg n = 0#32) ∧
      (s.fpPr = true → s.pairOk n = true → Runs .short (.fldi0 n) s (Part.pair n) fun t =>
        t.pair n = 0#64)) ∧
    (∀ n : BitVec 4,
      (s.fpPr = false → Runs .short (.fldi1 n) s [.fr n] fun t => t.frReg n = 0x3F800000#32) ∧
      (s.fpPr = true → s.pairOk n = true → Runs .short (.fldi1 n) s (Part.pair n) fun t =>
        t.pair n = 0x3FF0000000000000#64)) ∧
    (∀ m : BitVec 4, Runs .short (.flds m) s [.fpul] fun t => t.fpul = s.frReg m) ∧
    (∀ m n : BitVec 4,
      (s.fpSz = false → Runs .short (.fmov m n) s [.fr n] fun t => t.frReg n = s.frReg m) ∧
      (s.fpSz = true → s.pairOk m = true → s.pairOk n = true → Runs .short (.fmov m n) s (Part.pair n) fun t =>
        t.pair n = s.pair m))

/-- With an FPU present: under SZ = 0 FRn takes the four bytes at the address (a refused address raises AddressError);
under SZ = 1, with all eight bytes admitted and readable, the pair n takes the first word as its high half when PR =
0 and as its low half when PR = 1; @Rm+ then increases Rm by 4 or 8. Nothing else changes. Under SZ = 1, where the
check of the eight bytes, or of either four, refuses the address (EA for the eight and the first four, EA + 4 for
the second four), AddressError with that address is raised in the state before, so no register is changed but by the
exception entry. The order is the decision D36 (log 44), the check D19 (log 19), pairs D35 (log 44). -/
def Obligations.FloatLoadsRun : Prop :=
  ∀ s : State, s.FpuPresent →
    (∀ m n : BitVec 4,
      (s.fpSz = false → RunsLoad .short (.fmovSAtR0RmFrn m n) s (s.eaR0 (lo m)) 4 [.fr n] fun v t =>
        (t.frReg n).toNat = v) ∧
      (∀ a b, s.fpSz = true → s.pairOk n = true → s.accessOk .read (s.eaR0 (lo m)) 8 = true →
        s.Loads (s.eaR0 (lo m)) 4 a → s.Loads ((s.eaR0 (lo m)) + 4#64) 4 b →
        Runs .short (.fmovSAtR0RmFrn m n) s (Part.pair n) fun t =>
          t.pair n = (if s.fpPr = true then BitVec.ofNat 32 b ++ BitVec.ofNat 32 a
            else BitVec.ofNat 32 a ++ BitVec.ofNat 32 b : QWord)) ∧
      (s.fpSz = true → s.pairOk n = true →
        s.accessOk .read (s.eaR0 (lo m)) 8 = false ∨ s.accessOk .read (s.eaR0 (lo m)) 4 = false →
        exec (.fmovSAtR0RmFrn m n) s = raise (.addressError (s.eaR0 (lo m)) .read) s) ∧
      (s.fpSz = true → s.pairOk n = true → s.accessOk .read (s.eaR0 (lo m)) 8 = true →
        s.accessOk .read (s.eaR0 (lo m)) 4 = true →
        s.accessOk .read ((s.eaR0 (lo m)) + 4#64) 4 = false →
        exec (.fmovSAtR0RmFrn m n) s = raise (.addressError ((s.eaR0 (lo m)) + 4#64) .read) s)) ∧
    (∀ m n : BitVec 4,
      (s.fpSz = false → RunsLoad .short (.fmovSAtRmFrn m n) s (s.reg (lo m)) 4 [.fr n] fun v t =>
        (t.frReg n).toNat = v) ∧
      (∀ a b, s.fpSz = true → s.pairOk n = true → s.accessOk .read (s.reg (lo m)) 8 = true →
        s.Loads (s.reg (lo m)) 4 a → s.Loads ((s.reg (lo m)) + 4#64) 4 b →
        Runs .short (.fmovSAtRmFrn m n) s (Part.pair n) fun t =>
          t.pair n = (if s.fpPr = true then BitVec.ofNat 32 b ++ BitVec.ofNat 32 a
            else BitVec.ofNat 32 a ++ BitVec.ofNat 32 b : QWord)) ∧
      (s.fpSz = true → s.pairOk n = true →
        s.accessOk .read (s.reg (lo m)) 8 = false ∨ s.accessOk .read (s.reg (lo m)) 4 = false →
        exec (.fmovSAtRmFrn m n) s = raise (.addressError (s.reg (lo m)) .read) s) ∧
      (s.fpSz = true → s.pairOk n = true → s.accessOk .read (s.reg (lo m)) 8 = true →
        s.accessOk .read (s.reg (lo m)) 4 = true →
        s.accessOk .read ((s.reg (lo m)) + 4#64) 4 = false →
        exec (.fmovSAtRmFrn m n) s = raise (.addressError ((s.reg (lo m)) + 4#64) .read) s)) ∧
    (∀ m n : BitVec 4,
      (s.fpSz = false → RunsLoad .short (.fmovSIncRmFrn m n) s (s.reg (lo m)) 4 ([.fr n] ++ [.reg (lo m)]) fun v t =>
        (t.frReg n).toNat = v ∧ t.reg (lo m) = s.reg (lo m) + 4#64) ∧
      (∀ a b, s.fpSz = true → s.pairOk n = true → s.accessOk .read (s.reg (lo m)) 8 = true →
        s.Loads (s.reg (lo m)) 4 a → s.Loads ((s.reg (lo m)) + 4#64) 4 b →
        Runs .short (.fmovSIncRmFrn m n) s ((Part.pair n) ++ [.reg (lo m)]) fun t =>
          t.pair n = (if s.fpPr = true then BitVec.ofNat 32 b ++ BitVec.ofNat 32 a
            else BitVec.ofNat 32 a ++ BitVec.ofNat 32 b : QWord) ∧ t.reg (lo m) = s.reg (lo m) + 8#64) ∧
      (s.fpSz = true → s.pairOk n = true →
        s.accessOk .read (s.reg (lo m)) 8 = false ∨ s.accessOk .read (s.reg (lo m)) 4 = false →
        exec (.fmovSIncRmFrn m n) s = raise (.addressError (s.reg (lo m)) .read) s) ∧
      (s.fpSz = true → s.pairOk n = true → s.accessOk .read (s.reg (lo m)) 8 = true →
        s.accessOk .read (s.reg (lo m)) 4 = true →
        s.accessOk .read ((s.reg (lo m)) + 4#64) 4 = false →
        exec (.fmovSIncRmFrn m n) s = raise (.addressError ((s.reg (lo m)) + 4#64) .read) s))

/-- With an FPU present: under SZ = 0 the four bytes at the address hold FRm (a refused address raises AddressError);
under SZ = 1, with the access admitted whole and by halves, the first word holds the high half of the pair m when PR
= 0 and the low half when PR = 1 and the second word the other; @-Rn leaves the address in Rn. No other byte and
nothing else changes. Under SZ = 1, where the check of the eight bytes, or of either four, refuses the address,
AddressError with that address is raised in the state before, so no byte is written and no register is changed but
by the exception entry. The order is the decision D36 (log 44), the check D19 (log 19), pairs D35 (log 44). -/
def Obligations.FloatStoresRun : Prop :=
  ∀ s : State, s.FpuPresent →
    (∀ m n : BitVec 4,
      (s.fpSz = false → RunsStore .short (.fmovSFrmAtR0Rn m n) s (s.eaR0 (lo n)) 4 (s.frReg m).toNat [] fun _ =>
        True) ∧
      (s.fpSz = true → s.pairOk m = true → s.Stores (s.eaR0 (lo n)) 8 → s.Stores (s.eaR0 (lo n)) 4 →
        s.Stores ((s.eaR0 (lo n)) + 4#64) 4 →
        Runs .short (.fmovSFrmAtR0Rn m n) s (s.bytesAt (s.eaR0 (lo n)) 4 ++ s.bytesAt ((s.eaR0 (lo n)) + 4#64) 4) fun
          t =>
          t.Holds (s.eaR0 (lo n)) 4 (if s.fpPr = true then (s.pair m).toNat else (s.pair m).toNat / 2 ^ 32) ∧
          t.Holds ((s.eaR0 (lo n)) + 4#64) 4 (if s.fpPr = true then (s.pair m).toNat / 2 ^ 32 else (s.pair m).toNat))
            ∧
      (s.fpSz = true → s.pairOk m = true →
        s.accessOk .write (s.eaR0 (lo n)) 8 = false ∨ s.accessOk .write (s.eaR0 (lo n)) 4 = false →
        exec (.fmovSFrmAtR0Rn m n) s = raise (.addressError (s.eaR0 (lo n)) .write) s) ∧
      (s.fpSz = true → s.pairOk m = true → s.Stores (s.eaR0 (lo n)) 8 → s.Stores (s.eaR0 (lo n)) 4 →
        s.accessOk .write ((s.eaR0 (lo n)) + 4#64) 4 = false →
        exec (.fmovSFrmAtR0Rn m n) s = raise (.addressError ((s.eaR0 (lo n)) + 4#64) .write) s)) ∧
    (∀ m n : BitVec 4,
      (s.fpSz = false → RunsStore .short (.fmovSFrmAtRn m n) s (s.reg (lo n)) 4 (s.frReg m).toNat [] fun _ => True) ∧
      (s.fpSz = true → s.pairOk m = true → s.Stores (s.reg (lo n)) 8 → s.Stores (s.reg (lo n)) 4 →
        s.Stores ((s.reg (lo n)) + 4#64) 4 →
        Runs .short (.fmovSFrmAtRn m n) s (s.bytesAt (s.reg (lo n)) 4 ++ s.bytesAt ((s.reg (lo n)) + 4#64) 4) fun t =>
          t.Holds (s.reg (lo n)) 4 (if s.fpPr = true then (s.pair m).toNat else (s.pair m).toNat / 2 ^ 32) ∧
          t.Holds ((s.reg (lo n)) + 4#64) 4 (if s.fpPr = true then (s.pair m).toNat / 2 ^ 32 else (s.pair m).toNat)) ∧
      (s.fpSz = true → s.pairOk m = true →
        s.accessOk .write (s.reg (lo n)) 8 = false ∨ s.accessOk .write (s.reg (lo n)) 4 = false →
        exec (.fmovSFrmAtRn m n) s = raise (.addressError (s.reg (lo n)) .write) s) ∧
      (s.fpSz = true → s.pairOk m = true → s.Stores (s.reg (lo n)) 8 → s.Stores (s.reg (lo n)) 4 →
        s.accessOk .write ((s.reg (lo n)) + 4#64) 4 = false →
        exec (.fmovSFrmAtRn m n) s = raise (.addressError ((s.reg (lo n)) + 4#64) .write) s)) ∧
    (∀ m n : BitVec 4,
      (s.fpSz = false → RunsStore .short (.fmovSFrmDecRn m n) s (s.reg (lo n) - 4#64) 4 (s.frReg m).toNat [.reg (lo
        n)] fun t => t.reg (lo n) = s.reg (lo n) - 4#64) ∧
      (s.fpSz = true → s.pairOk m = true → s.Stores (s.reg (lo n) - 8#64) 8 → s.Stores (s.reg (lo n) - 8#64) 4 →
        s.Stores ((s.reg (lo n) - 8#64) + 4#64) 4 →
        Runs .short (.fmovSFrmDecRn m n) s ([.reg (lo n)] ++ s.bytesAt (s.reg (lo n) - 8#64) 4 ++ s.bytesAt ((s.reg
          (lo n) - 8#64) + 4#64) 4) fun t =>
          t.Holds (s.reg (lo n) - 8#64) 4 (if s.fpPr = true then (s.pair m).toNat else (s.pair m).toNat / 2 ^ 32) ∧
          t.Holds ((s.reg (lo n) - 8#64) + 4#64) 4 (if s.fpPr = true then (s.pair m).toNat / 2 ^ 32 else (s.pair
            m).toNat) ∧ t.reg (lo n) = s.reg (lo n) - 8#64) ∧
      (s.fpSz = true → s.pairOk m = true →
        s.accessOk .write (s.reg (lo n) - 8#64) 8 = false ∨ s.accessOk .write (s.reg (lo n) - 8#64) 4 = false →
        exec (.fmovSFrmDecRn m n) s = raise (.addressError (s.reg (lo n) - 8#64) .write) s) ∧
      (s.fpSz = true → s.pairOk m = true → s.Stores (s.reg (lo n) - 8#64) 8 → s.Stores (s.reg (lo n) - 8#64) 4 →
        s.accessOk .write ((s.reg (lo n) - 8#64) + 4#64) 4 = false →
        exec (.fmovSFrmDecRn m n) s = raise (.addressError ((s.reg (lo n) - 8#64) + 4#64) .write) s))

/-- With an FPU present and bit 0 of the immediate 0, PSETMD4 leaves SZ equal to bit 3, PR equal to bit 2, FR 0, and
every other bit of FPSCR 0 when bit 1 is set and unchanged otherwise; nothing else changes. With bit 0 set it is
refused. The order of the immediate is the decision D9 (log 10), the positions in FPSCR are log 25, the refusal is
D51 (log 29). -/
def Obligations.ModeSettingRuns : Prop :=
  ∀ (s : State) (imm : BitVec 4), s.FpuPresent →
    (imm.getLsbD 0 = false → Runs .short (.psetmd4 imm) s [.fpscr] fun t =>
      t.fpSz = imm.getLsbD 3 ∧ t.fpPr = imm.getLsbD 2 ∧ t.fpscr.getLsbD 21 = false ∧
      ∀ i < 32, i ≠ 19 → i ≠ 20 → i ≠ 21 → t.fpscr.getLsbD i = (!imm.getLsbD 1 && s.fpscr.getLsbD i)) ∧
    (imm.getLsbD 0 = true → exec (.psetmd4 imm) s = .refused (.fpscrUnsupported s.pc))

/-- With an FPU present: the immediate form (outside a delay slot) leaves sign, exponent field plus 112 and fraction
over 13 zeroes, but for Inf, NaN and denormals, where FPUL is a free value; the register form leaves Inf, NaN and
zero as their equivalents, a free value for denormals and the repacked number otherwise. STHF16 leaves a half of
FPUL zero-extended in Rn: with any numerics, for a FPUL that is no NaN, its fraction is the one of FPUL rounded to
10 bits (less than one unit away) under the sign of FPUL, an exponent too large gives the infinity of that sign and
one too small 0.0; under the default the rounding is to nearest even, 0.0 is positive and a NaN is an infinity.
Nothing else changes. The free values are log 41, the default of STHF16 and what other numerics leave open log 42. -/
def Obligations.HalfPrecisionRuns : Prop :=
  ∀ s : State, s.FpuPresent →
    (∀ imm : BitVec 16,
      (imm.extractLsb' 10 5 ≠ 31#5 → (imm.extractLsb' 10 5 = 0#5 → imm.extractLsb' 0 10 = 0#10) →
        RunsOutside .long (.ldhf16Imm16Fpul imm) s [.fpul] fun t =>
          t.fpul.getLsbD 31 = imm.getLsbD 15 ∧
          (t.fpul.extractLsb' 23 8).toNat = (imm.extractLsb' 10 5).toNat + 112 ∧
          t.fpul.extractLsb' 13 10 = imm.extractLsb' 0 10 ∧ t.fpul.extractLsb' 0 13 = 0#13) ∧
      (imm.extractLsb' 10 5 = 31#5 ∨ (imm.extractLsb' 10 5 = 0#5 ∧ imm.extractLsb' 0 10 ≠ 0#10) →
        RunsOutside .long (.ldhf16Imm16Fpul imm) s [.fpul, .freeIndex] fun t =>
          t.fpul = lowDword (Config.freeValue s.freeIndex) ∧ t.freeIndex = s.freeIndex + 1)) ∧
    (∀ (m : BitVec 4) (h : Word), (s.reg (lo m)).setWidth 16 = h →
      (h.extractLsb' 10 5 = 31#5 → Runs .short (.ldhf16RmFpul m) s [.fpul] fun t =>
        t.fpul = h.extractLsb' 15 1 ++ 0xFF#8 ++ h.extractLsb' 0 10 ++ 0#13) ∧
      (h.extractLsb' 10 5 = 0#5 → h.extractLsb' 0 10 = 0#10 → Runs .short (.ldhf16RmFpul m) s [.fpul] fun t =>
        t.fpul = h.extractLsb' 15 1 ++ 0#31) ∧
      (h.extractLsb' 10 5 = 0#5 → h.extractLsb' 0 10 ≠ 0#10 →
        Runs .short (.ldhf16RmFpul m) s [.fpul, .freeIndex] fun t =>
          t.fpul = lowDword (Config.freeValue s.freeIndex) ∧ t.freeIndex = s.freeIndex + 1) ∧
      (h.extractLsb' 10 5 ≠ 31#5 → h.extractLsb' 10 5 ≠ 0#5 → Runs .short (.ldhf16RmFpul m) s [.fpul] fun t =>
        t.fpul.getLsbD 31 = h.getLsbD 15 ∧
        (t.fpul.extractLsb' 23 8).toNat = (h.extractLsb' 10 5).toNat + 112 ∧
        t.fpul.extractLsb' 13 10 = h.extractLsb' 0 10 ∧ t.fpul.extractLsb' 0 13 = 0#13)) ∧
    (∀ n : BitVec 4, Runs .short (.sthf16 n) s [.reg (lo n)] fun t =>
      (t.reg (lo n)).toNat = (numToHalf s.launch.fpNumerics s.fpRm s.fpul).toNat ∧
      (fpDecode (fpFormat false) s.fpul.toNat ≠ .nan ∨ s.launch.fpNumerics = .ieee754 →
        PacksHalf (decide (s.launch.fpNumerics = .ieee754)) s.fpul ((t.reg (lo n)).setWidth 16)))

/-- The value 8Ejj-8Cjj decodes to LDIF16 with its 16-bit immediate; executed with an FPU present, outside a delay slot,
it leaves in FPUL the immediate in bits 31:16 and zeroes in bits 15:0, with no flag and nothing else changed.
Follows R396. -/
def Obligations.LoadHighImmediateRuns : Prop :=
  ∀ (s : State) (imm : BitVec 16), s.FpuPresent →
    Decodes [word 0x8#4 0xE#4 (nib3 imm) (nib2 imm), word 0x8#4 0xC#4 (nib1 imm) (nib0 imm)] (.ldif16 imm) ∧
    RunsOutside .long (.ldif16 imm) s [.fpul] fun t => t.fpul.toNat = imm.toNat * 2 ^ 16

/-- With PR = 1 FIPR and FMAC, and with PR = 0 FCNVDS and FCNVSD, take IllegalInstruction (SlotIllegalInstruction in a
delay slot) whatever the profile. In the Basic profile every instruction with an odd register number where a pair is
meant is refused: under PR = 1 FADD, FSUB, FMUL, FDIV, FCMPEQ, FCMPGT, FSQRT, FLOAT, FABS, FNEG, FLDI0, FLDI1,
FCNVSD, FTRC and FCNVDS, under SZ = 1 FMOV between registers and the FMOV loads and stores. The trap is the decision
D33 (log 11), the refusal U14 (log 29). -/
def Obligations.WrongModeOrPairStops : Prop :=
  ∀ s : State,
    (s.fpPr = true →
      (∀ m n, exec (.fmac m n) s = raiseIllegal s) ∧ (∀ vm vn, exec (.fipr vm vn) s = raiseIllegal s)) ∧
    (s.fpPr = false →
      (∀ m, exec (.fcnvds m) s = raiseIllegal s) ∧ (∀ n, exec (.fcnvsd n) s = raiseIllegal s)) ∧
    (s.pending = none → raiseIllegal s = raise .illegalInstruction s) ∧
    (s.pending ≠ none → raiseIllegal s = raise .slotIllegalInstruction s) ∧
    (s.launch.fpuProfile = .basic → ∀ m n : BitVec 4,
      (s.fpPr = true → m.getLsbD 0 = true ∨ n.getLsbD 0 = true →
        exec (.fadd m n) s = .refused (.oddPairBasic s.pc) ∧
        exec (.fsub m n) s = .refused (.oddPairBasic s.pc) ∧
        exec (.fmul m n) s = .refused (.oddPairBasic s.pc) ∧
        exec (.fdiv m n) s = .refused (.oddPairBasic s.pc) ∧
        exec (.fcmpeq m n) s = .refused (.oddPairBasic s.pc) ∧
        exec (.fcmpgt m n) s = .refused (.oddPairBasic s.pc)) ∧
      (s.fpPr = true → n.getLsbD 0 = true →
        exec (.fsqrt n) s = .refused (.oddPairBasic s.pc) ∧
        exec (.float n) s = .refused (.oddPairBasic s.pc) ∧
        exec (.fabs n) s = .refused (.oddPairBasic s.pc) ∧
        exec (.fneg n) s = .refused (.oddPairBasic s.pc) ∧
        exec (.fldi0 n) s = .refused (.oddPairBasic s.pc) ∧
        exec (.fldi1 n) s = .refused (.oddPairBasic s.pc) ∧
        exec (.fcnvsd n) s = .refused (.oddPairBasic s.pc)) ∧
      (s.fpPr = true → m.getLsbD 0 = true →
        exec (.ftrc m) s = .refused (.oddPairBasic s.pc) ∧
        exec (.fcnvds m) s = .refused (.oddPairBasic s.pc)) ∧
      (s.fpSz = true → m.getLsbD 0 = true ∨ n.getLsbD 0 = true → exec (.fmov m n) s = .refused (.oddPairBasic s.pc)) ∧
      (s.fpSz = true → n.getLsbD 0 = true →
        exec (.fmovSAtR0RmFrn m n) s = .refused (.oddPairBasic s.pc) ∧
        exec (.fmovSAtRmFrn m n) s = .refused (.oddPairBasic s.pc) ∧
        exec (.fmovSIncRmFrn m n) s = .refused (.oddPairBasic s.pc)) ∧
      (s.fpSz = true → m.getLsbD 0 = true →
        exec (.fmovSFrmAtR0Rn m n) s = .refused (.oddPairBasic s.pc) ∧
        exec (.fmovSFrmAtRn m n) s = .refused (.oddPairBasic s.pc) ∧
        exec (.fmovSFrmDecRn m n) s = .refused (.oddPairBasic s.pc)))
end

