-- ==== Sys2Proof/Laws/Flags.lean ====
section
/-!
SUPPORT. Sys2Proof/Laws/Flags.lean: what the operation width, the results and the flag computations are, as integers and
as bits.
-/
namespace Sys2Proof.Machine

/-! ## The operation width -/

/-- Under rule R7 the operation width is 64 when `q` or SR.DQ is 1, else 32. -/
theorem State.width_r7 {s : State} (h : s.launch.opwRule = .r7) (q : Bool) :
    s.width q = if q || s.flagDq then 64 else 32 := by
  rw [State.width, h]; rfl

/-- The two operation widths. -/
theorem State.width_cases (s : State) (q : Bool) : s.width q = 32 ∨ s.width q = 64 := by
  unfold State.width; split <;> simp

theorem State.width_pos (s : State) (q : Bool) : 0 < s.width q := by
  rcases s.width_cases q with h | h <;> omega

theorem State.width_le (s : State) (q : Bool) : s.width q ≤ 64 := by
  rcases s.width_cases q with h | h <;> omega

/-- A result is written with its value as a signed integer. -/
theorem wb_toInt {W : Nat} (r : BitVec W) (h : W ≤ 64) : (wb r).toInt = r.toInt :=
  BitVec.toInt_signExtend_of_le h

/-- A result is written with its top bit repeated. -/
theorem wb_bit {W : Nat} (r : BitVec W) (h0 : 0 < W) {i : Nat} (hi : i < 64) :
    (wb r).getLsbD i = r.getLsbD (min i (W - 1)) := by
  simp only [wb, BitVec.getLsbD_signExtend, hi, decide_true, Bool.true_and]
  split
  · congr 1; omega
  · rw [BitVec.msb_eq_getLsbD_last]; congr 1; omega

/-- The low bits as a signed integer. -/
theorem lowW_toInt (W : Nat) (a : QWord) (h : W ≤ 64) : (lowW W a).toInt = a.toInt.bmod (2 ^ W) := by
  rw [lowW, BitVec.toInt_setWidth, BitVec.toInt_eq_toNat_bmod,
    Int.bmod_bmod_of_dvd (Nat.pow_dvd_pow 2 h)]

/-- The low bits as an unsigned integer. -/
theorem lowW_toNat (W : Nat) (a : QWord) : (lowW W a).toNat = a.toNat % 2 ^ W := by simp [lowW]

/-- One of the low bits. -/
theorem lowW_bit (W : Nat) (a : QWord) {i : Nat} (hi : i < W) : (lowW W a).getLsbD i = a.getLsbD i := by
  simp [lowW, hi]

/-! ## Results as integers -/

theorem addW_toInt (W : Nat) (a b : QWord) (h : W ≤ 64) :
    (addW W a b).toInt = (a.toInt + b.toInt).bmod (2 ^ W) := by
  rw [addW, wb_toInt _ h, BitVec.toInt_add, lowW_toInt W a h, lowW_toInt W b h]
  simp

theorem subW_toInt (W : Nat) (a b : QWord) (h : W ≤ 64) :
    (subW W a b).toInt = (a.toInt - b.toInt).bmod (2 ^ W) := by
  rw [subW, wb_toInt _ h, BitVec.toInt_sub, lowW_toInt W a h, lowW_toInt W b h]
  simp

theorem mulW_toInt (W : Nat) (a b : QWord) (h : W ≤ 64) :
    (mulW W a b).toInt = (a.toInt * b.toInt).bmod (2 ^ W) := by
  rw [mulW, wb_toInt _ h, BitVec.toInt_mul, lowW_toInt W a h, lowW_toInt W b h]
  simp

theorem negW_toInt (W : Nat) (a : QWord) (h : W ≤ 64) : (negW W a).toInt = (-a.toInt).bmod (2 ^ W) := by
  rw [negW, wb_toInt _ h, BitVec.toInt_neg, lowW_toInt W a h]
  simp

/-- An unsigned value and the signed one agree modulo the width. -/
theorem toNat_bmod_eq (W : Nat) (a : QWord) (h : W ≤ 64) :
    (((a.toNat % 2 ^ W : Nat) : Int)).bmod (2 ^ W) = a.toInt.bmod (2 ^ W) := by
  rw [← lowW_toNat, ← BitVec.toInt_eq_toNat_bmod, lowW_toInt W a h]

/-- Integers that agree modulo `m` have the same balanced remainder. -/
theorem bmod_congr {m : Nat} {x y : Int} (h : (m : Int) ∣ x - y) : x.bmod m = y.bmod m := by
  obtain ⟨k, hk⟩ := h
  have e : x = y + m * k := by omega
  rw [e, Int.add_mul_bmod_self_left]

/-- The low bits as an unsigned integer differ from the signed value by a multiple of the modulus. -/
theorem low_dvd (W : Nat) (a : QWord) (h : W ≤ 64) :
    ((2 ^ W : Nat) : Int) ∣ ((a.toNat % 2 ^ W : Nat) : Int) - a.toInt := by
  have e := toNat_bmod_eq W a h
  have h1 := Int.dvd_self_sub_bmod (x := ((a.toNat % 2 ^ W : Nat) : Int)) (m := 2 ^ W)
  have h2 := Int.dvd_self_sub_bmod (x := a.toInt) (m := 2 ^ W)
  rw [e] at h1
  have := Int.dvd_sub h1 h2
  convert this using 1
  ring

theorem addcW_toInt (W : Nat) (a b : QWord) (c : Bool) (h : W ≤ 64) :
    (addcW W a b c).1.toInt = (a.toInt + b.toInt + c.toNat).bmod (2 ^ W) := by
  rw [addcW, wb_toInt _ h, BitVec.toInt_ofNat', lowW_toNat, lowW_toNat]
  apply bmod_congr
  have := Int.dvd_add (low_dvd W a h) (low_dvd W b h)
  convert this using 1
  simp only [Nat.cast_add]
  ring

theorem addcW_carry (W : Nat) (a b : QWord) (c : Bool) :
    (addcW W a b c).2 = decide (2 ^ W ≤ a.toNat % 2 ^ W + b.toNat % 2 ^ W + c.toNat) := by
  simp [addcW, lowW_toNat]

theorem subcW_toInt (W : Nat) (a b : QWord) (c : Bool) (h : W ≤ 64) :
    (subcW W a b c).1.toInt = (a.toInt - b.toInt - c.toNat).bmod (2 ^ W) := by
  rw [subcW, wb_toInt _ h]
  simp only [BitVec.toInt_ofInt, lowW_toNat]
  apply bmod_congr
  have := Int.dvd_sub (low_dvd W a h) (low_dvd W b h)
  convert this using 1
  ring

theorem subcW_borrow (W : Nat) (a b : QWord) (c : Bool) :
    (subcW W a b c).2 = decide (a.toNat % 2 ^ W < b.toNat % 2 ^ W + c.toNat) := by
  simp only [subcW, lowW_toNat, decide_eq_decide]
  omega

theorem addvW_toInt (W : Nat) (a b : QWord) (h : W ≤ 64) :
    (addvW W a b).1.toInt = (a.toInt + b.toInt).bmod (2 ^ W) := by
  rw [addvW, wb_toInt _ h, BitVec.toInt_ofInt, lowW_toInt W a h, lowW_toInt W b h]
  simp

theorem subvW_toInt (W : Nat) (a b : QWord) (h : W ≤ 64) :
    (subvW W a b).1.toInt = (a.toInt - b.toInt).bmod (2 ^ W) := by
  rw [subvW, wb_toInt _ h, BitVec.toInt_ofInt, lowW_toInt W a h, lowW_toInt W b h]
  simp

theorem addvW_overflow (W : Nat) (a b : QWord) (h : W ≤ 64) :
    (addvW W a b).2 = outsideSigned W (a.toInt.bmod (2 ^ W) + b.toInt.bmod (2 ^ W)) := by
  rw [addvW, lowW_toInt W a h, lowW_toInt W b h]

theorem subvW_overflow (W : Nat) (a b : QWord) (h : W ≤ 64) :
    (subvW W a b).2 = outsideSigned W (a.toInt.bmod (2 ^ W) - b.toInt.bmod (2 ^ W)) := by
  rw [subvW, lowW_toInt W a h, lowW_toInt W b h]

/-! ## Compares -/

theorem eqW_eq (W : Nat) (a b : QWord) (h : W ≤ 64) :
    eqW W a b = decide (a.toInt.bmod (2 ^ W) = b.toInt.bmod (2 ^ W)) := by
  simp only [eqW, ← lowW_toInt W a h, ← lowW_toInt W b h, BitVec.toInt_inj]
  rfl

theorem geW_eq (W : Nat) (a b : QWord) (h : W ≤ 64) :
    geW W a b = decide (b.toInt.bmod (2 ^ W) ≤ a.toInt.bmod (2 ^ W)) := by
  rw [geW, lowW_toInt W a h, lowW_toInt W b h]

theorem gtW_eq (W : Nat) (a b : QWord) (h : W ≤ 64) :
    gtW W a b = decide (b.toInt.bmod (2 ^ W) < a.toInt.bmod (2 ^ W)) := by
  rw [gtW, lowW_toInt W a h, lowW_toInt W b h]

theorem hiW_eq (W : Nat) (a b : QWord) : hiW W a b = decide (b.toNat % 2 ^ W < a.toNat % 2 ^ W) := by
  rw [hiW, lowW_toNat, lowW_toNat]

theorem hsW_eq (W : Nat) (a b : QWord) : hsW W a b = decide (b.toNat % 2 ^ W ≤ a.toNat % 2 ^ W) := by
  rw [hsW, lowW_toNat, lowW_toNat]

theorem tstW_iff (W : Nat) (a b : QWord) :
    tstW W a b = true ↔ ∀ i < W, (a.getLsbD i && b.getLsbD i) = false := by
  rw [tstW, beq_iff_eq]
  constructor
  · intro h i hi
    have := congrArg (fun v => v.getLsbD i) h
    simpa [lowW, hi] using this
  · intro h
    apply BitVec.eq_of_getLsbD_eq
    intro i hi
    simpa [lowW, hi] using h i hi

/-! ## Results as bits -/

theorem andW_bit (W : Nat) (a b : QWord) (h0 : 0 < W) {i : Nat} (hi : i < 64) :
    (andW W a b).getLsbD i = (a.getLsbD (min i (W - 1)) && b.getLsbD (min i (W - 1))) := by
  rw [andW, wb_bit _ h0 hi, BitVec.getLsbD_and, lowW_bit W a (by omega), lowW_bit W b (by omega)]

theorem orW_bit (W : Nat) (a b : QWord) (h0 : 0 < W) {i : Nat} (hi : i < 64) :
    (orW W a b).getLsbD i = (a.getLsbD (min i (W - 1)) || b.getLsbD (min i (W - 1))) := by
  rw [orW, wb_bit _ h0 hi, BitVec.getLsbD_or, lowW_bit W a (by omega), lowW_bit W b (by omega)]

theorem xorW_bit (W : Nat) (a b : QWord) (h0 : 0 < W) {i : Nat} (hi : i < 64) :
    (xorW W a b).getLsbD i = (a.getLsbD (min i (W - 1)) ^^ b.getLsbD (min i (W - 1))) := by
  rw [xorW, wb_bit _ h0 hi, BitVec.getLsbD_xor, lowW_bit W a (by omega), lowW_bit W b (by omega)]

theorem notW_bit (W : Nat) (a : QWord) (h0 : 0 < W) {i : Nat} (hi : i < 64) :
    (notW W a).getLsbD i = !a.getLsbD (min i (W - 1)) := by
  rw [notW, wb_bit _ h0 hi, BitVec.getLsbD_not, lowW_bit W a (by omega)]
  simp; omega

theorem shiftLeft1_bit (W : Nat) (a : QWord) (b : Bool) (h0 : 0 < W) {i : Nat} (hi : i < 64) :
    (shiftLeft1 W a b).1.getLsbD i = if min i (W - 1) = 0 then b else a.getLsbD (min i (W - 1) - 1) := by
  have hm : min i (W - 1) < W := by omega
  rw [shiftLeft1, wb_bit _ h0 hi, BitVec.getLsbD_or, BitVec.getLsbD_shiftLeft]
  generalize min i (W - 1) = j at *
  by_cases hj : j = 0
  · subst hj; cases b <;> simp [h0]
  · have hb : (BitVec.ofNat W b.toNat).getLsbD j = false := by
      cases b
      · simp
      · simp [hj]
    rw [hb, if_neg hj, lowW_bit W a (by omega)]
    have : ¬j < 1 := by omega
    simp [hm, this]

theorem shiftLeft1_out (W : Nat) (a : QWord) (b : Bool) (h0 : 0 < W) :
    (shiftLeft1 W a b).2 = a.getLsbD (W - 1) := by
  rw [shiftLeft1, lowW_bit W a (by omega)]

theorem shiftRight1_bit (W : Nat) (a : QWord) (b : Bool) (h0 : 0 < W) {i : Nat} (hi : i < 64) :
    (shiftRight1 W a b).1.getLsbD i = if W - 1 ≤ i then b else a.getLsbD (i + 1) := by
  rw [shiftRight1, wb_bit _ h0 hi, BitVec.getLsbD_or, BitVec.getLsbD_ushiftRight, BitVec.getLsbD_shiftLeft]
  by_cases hj : W - 1 ≤ i
  · have e : min i (W - 1) = W - 1 := by omega
    have : ¬1 + (W - 1) < W := by omega
    rw [e, if_pos hj]
    cases b <;> simp [lowW, h0, this]
  · have e : min i (W - 1) = i := by omega
    have h1 : i < W - 1 := by omega
    rw [e, if_neg hj, Nat.add_comm 1 i, lowW_bit W a (by omega)]
    simp [h1]

theorem shiftRight1_out (W : Nat) (a : QWord) (b : Bool) (h0 : 0 < W) :
    (shiftRight1 W a b).2 = a.getLsbD 0 := by
  rw [shiftRight1, lowW_bit W a h0]

theorem topBit_eq (W : Nat) (a : QWord) (h0 : 0 < W) : topBit W a = a.getLsbD (W - 1) := by
  rw [topBit, lowW_bit W a (by omega)]

theorem shiftLeftW_bit (W : Nat) (a : QWord) (k : Nat) (h0 : 0 < W) {i : Nat} (hi : i < 64) :
    (shiftLeftW W a k).getLsbD i =
      (decide (k ≤ min i (W - 1)) && a.getLsbD (min i (W - 1) - k)) := by
  have hm : min i (W - 1) < W := by omega
  rw [shiftLeftW, wb_bit _ h0 hi, BitVec.getLsbD_shiftLeft]
  generalize min i (W - 1) = j at *
  rw [lowW_bit W a (by omega)]
  by_cases hk : k ≤ j
  · have : ¬j < k := by omega
    simp [hm, hk, this]
  · have : j < k := by omega
    simp [hk, this]

theorem shiftRightW_bit (W : Nat) (a : QWord) (k : Nat) (h0 : 0 < W) {i : Nat} (hi : i < 64) :
    (shiftRightW W a k).getLsbD i =
      (decide (min i (W - 1) + k < W) && a.getLsbD (min i (W - 1) + k)) := by
  rw [shiftRightW, wb_bit _ h0 hi, BitVec.getLsbD_ushiftRight, lowW, BitVec.getLsbD_setWidth, Nat.add_comm k]

/-! ## Bits of SR -/

theorem setBitTo_bit (v : DWord) (i j : Nat) (b : Bool) (hi : i < 32) :
    (setBitTo v i b).getLsbD j = if j = i then b else v.getLsbD j := by
  unfold setBitTo
  by_cases hj : j = i
  · subst hj; cases b <;> simp [hi]
  · have h1 : (1#32 <<< i).getLsbD j = false := by
      simp [BitVec.getLsbD_shiftLeft, BitVec.getLsbD_one]
      omega
    rw [if_neg hj]
    cases b
    · rw [if_neg (by simp), BitVec.getLsbD_and, BitVec.getLsbD_not, h1]
      by_cases hj2 : j < 32
      · simp [hj2]
      · simp [BitVec.getLsbD_of_ge _ _ (Nat.le_of_not_lt hj2)]
    · rw [if_pos rfl, BitVec.getLsbD_or, h1, Bool.or_false]

end Sys2Proof.Machine
end

