-- ==== Sys2Proof/Laws/Memory.lean ====
section
/-!
SUPPORT. Sys2Proof/Laws/Memory.lean: what the memory operations do to each byte, and that every one of them keeps the
canonical form (20_memory.md R62).
-/
namespace Sys2Proof.Machine

/-- One byte written: that byte holds the value and every other one is left alone. -/
theorem memGet_memSet (m : List Host.Cell) (a : Nat) (v : Byte) (b : Nat) :
    memGet (memSet m a v) b = if b = a then some v else memGet m b := by
  induction m with
  | nil => simp [memSet, memGet]
  | cons c rest ih =>
    unfold memSet
    split
    · rename_i h
      by_cases hb : b = a <;> simp [memGet, hb]
    · split
      · rename_i h
        by_cases hb : b = a
        · simp [memGet, hb]
        · have : b ≠ c.1 := by omega
          simp [memGet, hb, this]
      · by_cases hb : b = c.1
        · have : b ≠ a := by omega
          simp [memGet, hb]
          omega
        · simp [memGet, hb, ih]

/-- The canonical form of a list with a first entry: it is below the next one, and the rest is canonical. -/
theorem memWf_cons (c : Host.Cell) (m : List Host.Cell) :
    memWf (c :: m) = true ↔ c.1 < 2 ^ 64 ∧ (∀ d ∈ m.head?, c.1 < d.1) ∧ memWf m = true := by
  induction m generalizing c with
  | nil => simp [memWf]
  | cons d rest ih =>
    have hd := ih d
    simp only [memWf, Bool.and_eq_true, decide_eq_true_eq, List.head?_cons, Option.mem_some_iff, forall_eq']
    constructor
    · rintro ⟨h, hw⟩
      have := (hd.1 hw).1
      exact ⟨by omega, h, hw⟩
    · rintro ⟨_, h, hw⟩
      exact ⟨h, hw⟩

/-- The least address of a list with one byte set. -/
theorem memSet_head (m : List Host.Cell) (a : Nat) (v : Byte) :
    ∀ d ∈ (memSet m a v).head?, d.1 = a ∨ d ∈ m.head? := by
  cases m with
  | nil => simp [memSet]
  | cons c rest =>
    unfold memSet
    split
    · simp
    · split <;> simp

/-- Writing a byte keeps the canonical form. -/
theorem memWf_memSet {m : List Host.Cell} {a : Nat} (v : Byte) (h : memWf m = true) (ha : a < 2 ^ 64) :
    memWf (memSet m a v) = true := by
  induction m with
  | nil => simpa [memSet, memWf] using ha
  | cons c rest ih =>
    have hc := (memWf_cons c rest).1 h
    unfold memSet
    split
    · rename_i hlt
      exact (memWf_cons _ _).2 ⟨ha, by simpa using hlt, h⟩
    · split
      · rename_i _ heq
        exact (memWf_cons _ _).2 ⟨ha, fun d hd => by simpa [heq] using hc.2.1 d hd, hc.2.2⟩
      · rename_i h1 h2
        refine (memWf_cons _ _).2 ⟨hc.1, fun d hd => ?_, ih hc.2.2⟩
        rcases memSet_head rest a v d hd with he | he
        · omega
        · exact hc.2.1 d he

/-- Writing a value: each of its bytes is written and every other byte is left alone. -/
theorem memGet_memWrite (m : List Host.Cell) (a n v b : Nat) :
    memGet (memWrite m a n v) b =
      if a ≤ b ∧ b < a + n then some (BitVec.ofNat 8 (v / 256 ^ (b - a))) else memGet m b := by
  induction n generalizing m a v with
  | zero =>
    have : ¬(a ≤ b ∧ b < a + 0) := by omega
    rw [if_neg this, memWrite]
  | succ n ih =>
    rw [memWrite, ih, memGet_memSet]
    by_cases h0 : b = a
    · subst h0
      have h1 : ¬(b + 1 ≤ b ∧ b < b + 1 + n) := by omega
      have h2 : b ≤ b ∧ b < b + (n + 1) := by omega
      simp [h2]
    · by_cases h1 : a + 1 ≤ b ∧ b < a + 1 + n
      · have h2 : a ≤ b ∧ b < a + (n + 1) := by omega
        have h3 : b - a = (b - (a + 1)) + 1 := by omega
        rw [if_pos h1, if_pos h2, h3, Nat.pow_succ, Nat.mul_comm, Nat.div_div_eq_div_mul]
      · have h2 : ¬(a ≤ b ∧ b < a + (n + 1)) := by omega
        rw [if_neg h1, if_neg h0, if_neg h2]

/-- Writing a value keeps the canonical form. -/
theorem memWf_memWrite {m : List Host.Cell} {a n : Nat} (v : Nat) (h : memWf m = true) (ha : a + n ≤ 2 ^ 64) :
    memWf (memWrite m a n v) = true := by
  induction n generalizing m a v with
  | zero => simpa [memWrite] using h
  | succ n ih =>
    rw [memWrite]
    exact ih (v / 256) (memWf_memSet _ h (by omega)) (by omega)

/-! ## The address space -/

/-- The address space has at most 2^64 bytes. -/
theorem Launch.space_le (l : Launch) : l.space ≤ 2 ^ 64 := Nat.pow_le_pow_right (by decide) (Nat.min_le_right _ _)

theorem Launch.space_pos (l : Launch) : 0 < l.space := Nat.two_pow_pos _

/-- An address names a byte of the address space. -/
theorem Launch.locate_lt (l : Launch) (a : QWord) : l.locate a < l.space := Nat.mod_lt _ l.space_pos

theorem Launch.locate_lt_top (l : Launch) (a : QWord) : l.locate a < 2 ^ 64 :=
  Nat.lt_of_lt_of_le (l.locate_lt a) l.space_le

/-- With 64 significant bits an address is the byte it names. -/
theorem Launch.locate_full {l : Launch} (h : l.vaBits = 64) (a : QWord) : l.locate a = a.toNat := by
  rw [Launch.locate, Launch.space, h]
  exact Nat.mod_eq_of_lt a.isLt

/-- An offset that stays within the address space is added to the byte an address names. -/
theorem Launch.locate_add (l : Launch) (a : QWord) (k : Nat) (h : l.locate a + k < l.space) :
    l.locate (a + BitVec.ofNat 64 k) = l.locate a + k := by
  have hd : l.space ∣ 2 ^ 64 := Nat.pow_dvd_pow 2 (Nat.min_le_right _ _)
  rw [Launch.locate, BitVec.toNat_add, BitVec.toNat_ofNat, Nat.mod_mod_of_dvd _ hd, Nat.add_mod,
    Nat.mod_mod_of_dvd _ hd, ← Nat.add_mod, ← Nat.mod_eq_of_lt h, Launch.locate, Nat.mod_add_mod]

/-- Placing bytes keeps the canonical form. -/
theorem memWf_placeBytes {m : List Host.Cell} (l : Launch) (a : QWord) (bs : List Byte) (h : memWf m = true) :
    memWf (placeBytes l m a bs) = true := by
  induction bs generalizing m a with
  | nil => simpa [placeBytes] using h
  | cons b rest ih => exact ih (a + 1#64) (memWf_memSet b h (l.locate_lt_top a))

/-- A value read depends on the bytes read alone. -/
theorem memRead_congr {m m' : List Host.Cell} {a n : Nat}
    (h : ∀ b, a ≤ b → b < a + n → memGet m b = memGet m' b) : memRead m a n = memRead m' a n := by
  induction n generalizing a with
  | zero => rfl
  | succ n ih =>
    rw [memRead, memRead, h a (by omega) (by omega), ih fun b h1 h2 => h b (by omega) (by omega)]

/-- A value read fits in its bytes. -/
theorem memRead_lt {m : List Host.Cell} {a n v : Nat} (h : memRead m a n = some v) : v < 256 ^ n := by
  induction n generalizing a v with
  | zero => simp [memRead] at h; omega
  | succ n ih =>
    rw [memRead] at h
    split at h
    · rename_i b w hb hw
      have h1 := ih hw
      have h2 := b.isLt
      simp only [Option.some.injEq] at h
      rw [Nat.pow_succ]
      omega
    · cases h

/-- An address below the first entry holds no value. -/
theorem memGet_below {m : List Host.Cell} {a : Nat} (h : memWf m = true) (ha : ∀ d ∈ m.head?, a < d.1) :
    memGet m a = none := by
  induction m with
  | nil => rfl
  | cons c rest ih =>
    have hc := (memWf_cons c rest).1 h
    have h1 := ha c (by simp)
    rw [memGet, if_neg (by omega)]
    exact ih hc.2.2 fun d hd => by have := hc.2.1 d hd; omega

/-- Canonical memories that agree on every byte are the same data. -/
theorem mem_ext {m m' : List Host.Cell} (h : memWf m = true) (h' : memWf m' = true)
    (hg : ∀ a, memGet m a = memGet m' a) : m = m' := by
  induction m generalizing m' with
  | nil =>
    cases m' with
    | nil => rfl
    | cons d rest' => have := hg d.1; simp [memGet] at this
  | cons c rest ih =>
    cases m' with
    | nil => have := hg c.1; simp [memGet] at this
    | cons d rest' =>
      have hc := (memWf_cons c rest).1 h
      have hd := (memWf_cons d rest').1 h'
      have e : c.1 = d.1 := by
        rcases Nat.lt_trichotomy c.1 d.1 with hlt | he | hlt
        · have := hg c.1
          rw [memGet_below h' (by simpa using hlt)] at this
          simp [memGet] at this
        · exact he
        · have := hg d.1
          rw [memGet_below h (by simpa using hlt)] at this
          simp [memGet] at this
      have e2 : c = d := by
        have := hg c.1
        simp [memGet, e] at this
        exact Prod.ext e this
      subst e2
      congr 1
      refine ih hc.2.2 hd.2.2 fun a => ?_
      by_cases ha : a = c.1
      · subst ha
        rw [memGet_below hc.2.2 hc.2.1, memGet_below hd.2.2 hd.2.1]
      · have := hg a
        simpa [memGet, ha] using this

end Sys2Proof.Machine
end

