-- ==== Sys2Proof/Laws/State.lean ====
section
/-!
SUPPORT. Sys2Proof/Laws/State.lean: one lemma per field per update of State, so that no later proof unfolds a record
update, and what a register reads after a register is written.
-/
namespace Sys2Proof.Machine

variable (s : State)

/-! ## setReg -/

@[simp] theorem State.setReg_gpr (r : BitVec 5) (v : QWord) : (s.setReg r v).gpr = s.gpr.set r.toNat v r.isLt := rfl
@[simp] theorem State.setReg_bank (r : BitVec 5) (v : QWord) : (s.setReg r v).bank = s.bank := rfl
@[simp] theorem State.setReg_pc (r : BitVec 5) (v : QWord) : (s.setReg r v).pc = s.pc := rfl
@[simp] theorem State.setReg_pending (r : BitVec 5) (v : QWord) : (s.setReg r v).pending = s.pending := rfl
@[simp] theorem State.setReg_sr (r : BitVec 5) (v : QWord) : (s.setReg r v).sr = s.sr := rfl
@[simp] theorem State.setReg_gbr (r : BitVec 5) (v : QWord) : (s.setReg r v).gbr = s.gbr := rfl
@[simp] theorem State.setReg_vbr (r : BitVec 5) (v : QWord) : (s.setReg r v).vbr = s.vbr := rfl
@[simp] theorem State.setReg_ssr (r : BitVec 5) (v : QWord) : (s.setReg r v).ssr = s.ssr := rfl
@[simp] theorem State.setReg_spc (r : BitVec 5) (v : QWord) : (s.setReg r v).spc = s.spc := rfl
@[simp] theorem State.setReg_sgr (r : BitVec 5) (v : QWord) : (s.setReg r v).sgr = s.sgr := rfl
@[simp] theorem State.setReg_dbr (r : BitVec 5) (v : QWord) : (s.setReg r v).dbr = s.dbr := rfl
@[simp] theorem State.setReg_mach (r : BitVec 5) (v : QWord) : (s.setReg r v).mach = s.mach := rfl
@[simp] theorem State.setReg_macl (r : BitVec 5) (v : QWord) : (s.setReg r v).macl = s.macl := rfl
@[simp] theorem State.setReg_pr (r : BitVec 5) (v : QWord) : (s.setReg r v).pr = s.pr := rfl
@[simp] theorem State.setReg_fpul (r : BitVec 5) (v : QWord) : (s.setReg r v).fpul = s.fpul := rfl
@[simp] theorem State.setReg_fpscr (r : BitVec 5) (v : QWord) : (s.setReg r v).fpscr = s.fpscr := rfl
@[simp] theorem State.setReg_fr (r : BitVec 5) (v : QWord) : (s.setReg r v).fr = s.fr := rfl
@[simp] theorem State.setReg_xf (r : BitVec 5) (v : QWord) : (s.setReg r v).xf = s.xf := rfl
@[simp] theorem State.setReg_sleeping (r : BitVec 5) (v : QWord) : (s.setReg r v).sleeping = s.sleeping := rfl
@[simp] theorem State.setReg_mem (r : BitVec 5) (v : QWord) : (s.setReg r v).mem = s.mem := rfl
@[simp] theorem State.setReg_records (r : BitVec 5) (v : QWord) : (s.setReg r v).records = s.records := rfl
@[simp] theorem State.setReg_runEnded (r : BitVec 5) (v : QWord) : (s.setReg r v).runEnded = s.runEnded := rfl
@[simp] theorem State.setReg_freeIndex (r : BitVec 5) (v : QWord) : (s.setReg r v).freeIndex = s.freeIndex := rfl
@[simp] theorem State.setReg_launch (r : BitVec 5) (v : QWord) : (s.setReg r v).launch = s.launch := rfl

/-! ## setBankReg -/

@[simp] theorem State.setBankReg_gpr (b : BitVec 3) (v : QWord) : (s.setBankReg b v).gpr = s.gpr := rfl
@[simp] theorem State.setBankReg_bank (b : BitVec 3) (v : QWord) : (s.setBankReg b v).bank = s.bank.set b.toNat v b.isLt := rfl
@[simp] theorem State.setBankReg_pc (b : BitVec 3) (v : QWord) : (s.setBankReg b v).pc = s.pc := rfl
@[simp] theorem State.setBankReg_pending (b : BitVec 3) (v : QWord) : (s.setBankReg b v).pending = s.pending := rfl
@[simp] theorem State.setBankReg_sr (b : BitVec 3) (v : QWord) : (s.setBankReg b v).sr = s.sr := rfl
@[simp] theorem State.setBankReg_gbr (b : BitVec 3) (v : QWord) : (s.setBankReg b v).gbr = s.gbr := rfl
@[simp] theorem State.setBankReg_vbr (b : BitVec 3) (v : QWord) : (s.setBankReg b v).vbr = s.vbr := rfl
@[simp] theorem State.setBankReg_ssr (b : BitVec 3) (v : QWord) : (s.setBankReg b v).ssr = s.ssr := rfl
@[simp] theorem State.setBankReg_spc (b : BitVec 3) (v : QWord) : (s.setBankReg b v).spc = s.spc := rfl
@[simp] theorem State.setBankReg_sgr (b : BitVec 3) (v : QWord) : (s.setBankReg b v).sgr = s.sgr := rfl
@[simp] theorem State.setBankReg_dbr (b : BitVec 3) (v : QWord) : (s.setBankReg b v).dbr = s.dbr := rfl
@[simp] theorem State.setBankReg_mach (b : BitVec 3) (v : QWord) : (s.setBankReg b v).mach = s.mach := rfl
@[simp] theorem State.setBankReg_macl (b : BitVec 3) (v : QWord) : (s.setBankReg b v).macl = s.macl := rfl
@[simp] theorem State.setBankReg_pr (b : BitVec 3) (v : QWord) : (s.setBankReg b v).pr = s.pr := rfl
@[simp] theorem State.setBankReg_fpul (b : BitVec 3) (v : QWord) : (s.setBankReg b v).fpul = s.fpul := rfl
@[simp] theorem State.setBankReg_fpscr (b : BitVec 3) (v : QWord) : (s.setBankReg b v).fpscr = s.fpscr := rfl
@[simp] theorem State.setBankReg_fr (b : BitVec 3) (v : QWord) : (s.setBankReg b v).fr = s.fr := rfl
@[simp] theorem State.setBankReg_xf (b : BitVec 3) (v : QWord) : (s.setBankReg b v).xf = s.xf := rfl
@[simp] theorem State.setBankReg_sleeping (b : BitVec 3) (v : QWord) : (s.setBankReg b v).sleeping = s.sleeping := rfl
@[simp] theorem State.setBankReg_mem (b : BitVec 3) (v : QWord) : (s.setBankReg b v).mem = s.mem := rfl
@[simp] theorem State.setBankReg_records (b : BitVec 3) (v : QWord) : (s.setBankReg b v).records = s.records := rfl
@[simp] theorem State.setBankReg_runEnded (b : BitVec 3) (v : QWord) : (s.setBankReg b v).runEnded = s.runEnded := rfl
@[simp] theorem State.setBankReg_freeIndex (b : BitVec 3) (v : QWord) : (s.setBankReg b v).freeIndex = s.freeIndex := rfl
@[simp] theorem State.setBankReg_launch (b : BitVec 3) (v : QWord) : (s.setBankReg b v).launch = s.launch := rfl

/-! ## setFrReg -/

@[simp] theorem State.setFrReg_gpr (r : Nibble) (v : DWord) : (s.setFrReg r v).gpr = s.gpr := rfl
@[simp] theorem State.setFrReg_bank (r : Nibble) (v : DWord) : (s.setFrReg r v).bank = s.bank := rfl
@[simp] theorem State.setFrReg_pc (r : Nibble) (v : DWord) : (s.setFrReg r v).pc = s.pc := rfl
@[simp] theorem State.setFrReg_pending (r : Nibble) (v : DWord) : (s.setFrReg r v).pending = s.pending := rfl
@[simp] theorem State.setFrReg_sr (r : Nibble) (v : DWord) : (s.setFrReg r v).sr = s.sr := rfl
@[simp] theorem State.setFrReg_gbr (r : Nibble) (v : DWord) : (s.setFrReg r v).gbr = s.gbr := rfl
@[simp] theorem State.setFrReg_vbr (r : Nibble) (v : DWord) : (s.setFrReg r v).vbr = s.vbr := rfl
@[simp] theorem State.setFrReg_ssr (r : Nibble) (v : DWord) : (s.setFrReg r v).ssr = s.ssr := rfl
@[simp] theorem State.setFrReg_spc (r : Nibble) (v : DWord) : (s.setFrReg r v).spc = s.spc := rfl
@[simp] theorem State.setFrReg_sgr (r : Nibble) (v : DWord) : (s.setFrReg r v).sgr = s.sgr := rfl
@[simp] theorem State.setFrReg_dbr (r : Nibble) (v : DWord) : (s.setFrReg r v).dbr = s.dbr := rfl
@[simp] theorem State.setFrReg_mach (r : Nibble) (v : DWord) : (s.setFrReg r v).mach = s.mach := rfl
@[simp] theorem State.setFrReg_macl (r : Nibble) (v : DWord) : (s.setFrReg r v).macl = s.macl := rfl
@[simp] theorem State.setFrReg_pr (r : Nibble) (v : DWord) : (s.setFrReg r v).pr = s.pr := rfl
@[simp] theorem State.setFrReg_fpul (r : Nibble) (v : DWord) : (s.setFrReg r v).fpul = s.fpul := rfl
@[simp] theorem State.setFrReg_fpscr (r : Nibble) (v : DWord) : (s.setFrReg r v).fpscr = s.fpscr := rfl
@[simp] theorem State.setFrReg_fr (r : Nibble) (v : DWord) : (s.setFrReg r v).fr = s.fr.set r.toNat v r.isLt := rfl
@[simp] theorem State.setFrReg_xf (r : Nibble) (v : DWord) : (s.setFrReg r v).xf = s.xf := rfl
@[simp] theorem State.setFrReg_sleeping (r : Nibble) (v : DWord) : (s.setFrReg r v).sleeping = s.sleeping := rfl
@[simp] theorem State.setFrReg_mem (r : Nibble) (v : DWord) : (s.setFrReg r v).mem = s.mem := rfl
@[simp] theorem State.setFrReg_records (r : Nibble) (v : DWord) : (s.setFrReg r v).records = s.records := rfl
@[simp] theorem State.setFrReg_runEnded (r : Nibble) (v : DWord) : (s.setFrReg r v).runEnded = s.runEnded := rfl
@[simp] theorem State.setFrReg_freeIndex (r : Nibble) (v : DWord) : (s.setFrReg r v).freeIndex = s.freeIndex := rfl
@[simp] theorem State.setFrReg_launch (r : Nibble) (v : DWord) : (s.setFrReg r v).launch = s.launch := rfl

/-! ## setT -/

@[simp] theorem State.setT_gpr (b : Bool) : (s.setT b).gpr = s.gpr := rfl
@[simp] theorem State.setT_bank (b : Bool) : (s.setT b).bank = s.bank := rfl
@[simp] theorem State.setT_pc (b : Bool) : (s.setT b).pc = s.pc := rfl
@[simp] theorem State.setT_pending (b : Bool) : (s.setT b).pending = s.pending := rfl
@[simp] theorem State.setT_sr (b : Bool) : (s.setT b).sr = setBitTo s.sr Config.srT b := rfl
@[simp] theorem State.setT_gbr (b : Bool) : (s.setT b).gbr = s.gbr := rfl
@[simp] theorem State.setT_vbr (b : Bool) : (s.setT b).vbr = s.vbr := rfl
@[simp] theorem State.setT_ssr (b : Bool) : (s.setT b).ssr = s.ssr := rfl
@[simp] theorem State.setT_spc (b : Bool) : (s.setT b).spc = s.spc := rfl
@[simp] theorem State.setT_sgr (b : Bool) : (s.setT b).sgr = s.sgr := rfl
@[simp] theorem State.setT_dbr (b : Bool) : (s.setT b).dbr = s.dbr := rfl
@[simp] theorem State.setT_mach (b : Bool) : (s.setT b).mach = s.mach := rfl
@[simp] theorem State.setT_macl (b : Bool) : (s.setT b).macl = s.macl := rfl
@[simp] theorem State.setT_pr (b : Bool) : (s.setT b).pr = s.pr := rfl
@[simp] theorem State.setT_fpul (b : Bool) : (s.setT b).fpul = s.fpul := rfl
@[simp] theorem State.setT_fpscr (b : Bool) : (s.setT b).fpscr = s.fpscr := rfl
@[simp] theorem State.setT_fr (b : Bool) : (s.setT b).fr = s.fr := rfl
@[simp] theorem State.setT_xf (b : Bool) : (s.setT b).xf = s.xf := rfl
@[simp] theorem State.setT_sleeping (b : Bool) : (s.setT b).sleeping = s.sleeping := rfl
@[simp] theorem State.setT_mem (b : Bool) : (s.setT b).mem = s.mem := rfl
@[simp] theorem State.setT_records (b : Bool) : (s.setT b).records = s.records := rfl
@[simp] theorem State.setT_runEnded (b : Bool) : (s.setT b).runEnded = s.runEnded := rfl
@[simp] theorem State.setT_freeIndex (b : Bool) : (s.setT b).freeIndex = s.freeIndex := rfl
@[simp] theorem State.setT_launch (b : Bool) : (s.setT b).launch = s.launch := rfl

/-! ## setS -/

@[simp] theorem State.setS_gpr (b : Bool) : (s.setS b).gpr = s.gpr := rfl
@[simp] theorem State.setS_bank (b : Bool) : (s.setS b).bank = s.bank := rfl
@[simp] theorem State.setS_pc (b : Bool) : (s.setS b).pc = s.pc := rfl
@[simp] theorem State.setS_pending (b : Bool) : (s.setS b).pending = s.pending := rfl
@[simp] theorem State.setS_sr (b : Bool) : (s.setS b).sr = setBitTo s.sr Config.srS b := rfl
@[simp] theorem State.setS_gbr (b : Bool) : (s.setS b).gbr = s.gbr := rfl
@[simp] theorem State.setS_vbr (b : Bool) : (s.setS b).vbr = s.vbr := rfl
@[simp] theorem State.setS_ssr (b : Bool) : (s.setS b).ssr = s.ssr := rfl
@[simp] theorem State.setS_spc (b : Bool) : (s.setS b).spc = s.spc := rfl
@[simp] theorem State.setS_sgr (b : Bool) : (s.setS b).sgr = s.sgr := rfl
@[simp] theorem State.setS_dbr (b : Bool) : (s.setS b).dbr = s.dbr := rfl
@[simp] theorem State.setS_mach (b : Bool) : (s.setS b).mach = s.mach := rfl
@[simp] theorem State.setS_macl (b : Bool) : (s.setS b).macl = s.macl := rfl
@[simp] theorem State.setS_pr (b : Bool) : (s.setS b).pr = s.pr := rfl
@[simp] theorem State.setS_fpul (b : Bool) : (s.setS b).fpul = s.fpul := rfl
@[simp] theorem State.setS_fpscr (b : Bool) : (s.setS b).fpscr = s.fpscr := rfl
@[simp] theorem State.setS_fr (b : Bool) : (s.setS b).fr = s.fr := rfl
@[simp] theorem State.setS_xf (b : Bool) : (s.setS b).xf = s.xf := rfl
@[simp] theorem State.setS_sleeping (b : Bool) : (s.setS b).sleeping = s.sleeping := rfl
@[simp] theorem State.setS_mem (b : Bool) : (s.setS b).mem = s.mem := rfl
@[simp] theorem State.setS_records (b : Bool) : (s.setS b).records = s.records := rfl
@[simp] theorem State.setS_runEnded (b : Bool) : (s.setS b).runEnded = s.runEnded := rfl
@[simp] theorem State.setS_freeIndex (b : Bool) : (s.setS b).freeIndex = s.freeIndex := rfl
@[simp] theorem State.setS_launch (b : Bool) : (s.setS b).launch = s.launch := rfl

/-! ## setQ -/

@[simp] theorem State.setQ_gpr (b : Bool) : (s.setQ b).gpr = s.gpr := rfl
@[simp] theorem State.setQ_bank (b : Bool) : (s.setQ b).bank = s.bank := rfl
@[simp] theorem State.setQ_pc (b : Bool) : (s.setQ b).pc = s.pc := rfl
@[simp] theorem State.setQ_pending (b : Bool) : (s.setQ b).pending = s.pending := rfl
@[simp] theorem State.setQ_sr (b : Bool) : (s.setQ b).sr = setBitTo s.sr Config.srQ b := rfl
@[simp] theorem State.setQ_gbr (b : Bool) : (s.setQ b).gbr = s.gbr := rfl
@[simp] theorem State.setQ_vbr (b : Bool) : (s.setQ b).vbr = s.vbr := rfl
@[simp] theorem State.setQ_ssr (b : Bool) : (s.setQ b).ssr = s.ssr := rfl
@[simp] theorem State.setQ_spc (b : Bool) : (s.setQ b).spc = s.spc := rfl
@[simp] theorem State.setQ_sgr (b : Bool) : (s.setQ b).sgr = s.sgr := rfl
@[simp] theorem State.setQ_dbr (b : Bool) : (s.setQ b).dbr = s.dbr := rfl
@[simp] theorem State.setQ_mach (b : Bool) : (s.setQ b).mach = s.mach := rfl
@[simp] theorem State.setQ_macl (b : Bool) : (s.setQ b).macl = s.macl := rfl
@[simp] theorem State.setQ_pr (b : Bool) : (s.setQ b).pr = s.pr := rfl
@[simp] theorem State.setQ_fpul (b : Bool) : (s.setQ b).fpul = s.fpul := rfl
@[simp] theorem State.setQ_fpscr (b : Bool) : (s.setQ b).fpscr = s.fpscr := rfl
@[simp] theorem State.setQ_fr (b : Bool) : (s.setQ b).fr = s.fr := rfl
@[simp] theorem State.setQ_xf (b : Bool) : (s.setQ b).xf = s.xf := rfl
@[simp] theorem State.setQ_sleeping (b : Bool) : (s.setQ b).sleeping = s.sleeping := rfl
@[simp] theorem State.setQ_mem (b : Bool) : (s.setQ b).mem = s.mem := rfl
@[simp] theorem State.setQ_records (b : Bool) : (s.setQ b).records = s.records := rfl
@[simp] theorem State.setQ_runEnded (b : Bool) : (s.setQ b).runEnded = s.runEnded := rfl
@[simp] theorem State.setQ_freeIndex (b : Bool) : (s.setQ b).freeIndex = s.freeIndex := rfl
@[simp] theorem State.setQ_launch (b : Bool) : (s.setQ b).launch = s.launch := rfl

/-! ## setM -/

@[simp] theorem State.setM_gpr (b : Bool) : (s.setM b).gpr = s.gpr := rfl
@[simp] theorem State.setM_bank (b : Bool) : (s.setM b).bank = s.bank := rfl
@[simp] theorem State.setM_pc (b : Bool) : (s.setM b).pc = s.pc := rfl
@[simp] theorem State.setM_pending (b : Bool) : (s.setM b).pending = s.pending := rfl
@[simp] theorem State.setM_sr (b : Bool) : (s.setM b).sr = setBitTo s.sr Config.srM b := rfl
@[simp] theorem State.setM_gbr (b : Bool) : (s.setM b).gbr = s.gbr := rfl
@[simp] theorem State.setM_vbr (b : Bool) : (s.setM b).vbr = s.vbr := rfl
@[simp] theorem State.setM_ssr (b : Bool) : (s.setM b).ssr = s.ssr := rfl
@[simp] theorem State.setM_spc (b : Bool) : (s.setM b).spc = s.spc := rfl
@[simp] theorem State.setM_sgr (b : Bool) : (s.setM b).sgr = s.sgr := rfl
@[simp] theorem State.setM_dbr (b : Bool) : (s.setM b).dbr = s.dbr := rfl
@[simp] theorem State.setM_mach (b : Bool) : (s.setM b).mach = s.mach := rfl
@[simp] theorem State.setM_macl (b : Bool) : (s.setM b).macl = s.macl := rfl
@[simp] theorem State.setM_pr (b : Bool) : (s.setM b).pr = s.pr := rfl
@[simp] theorem State.setM_fpul (b : Bool) : (s.setM b).fpul = s.fpul := rfl
@[simp] theorem State.setM_fpscr (b : Bool) : (s.setM b).fpscr = s.fpscr := rfl
@[simp] theorem State.setM_fr (b : Bool) : (s.setM b).fr = s.fr := rfl
@[simp] theorem State.setM_xf (b : Bool) : (s.setM b).xf = s.xf := rfl
@[simp] theorem State.setM_sleeping (b : Bool) : (s.setM b).sleeping = s.sleeping := rfl
@[simp] theorem State.setM_mem (b : Bool) : (s.setM b).mem = s.mem := rfl
@[simp] theorem State.setM_records (b : Bool) : (s.setM b).records = s.records := rfl
@[simp] theorem State.setM_runEnded (b : Bool) : (s.setM b).runEnded = s.runEnded := rfl
@[simp] theorem State.setM_freeIndex (b : Bool) : (s.setM b).freeIndex = s.freeIndex := rfl
@[simp] theorem State.setM_launch (b : Bool) : (s.setM b).launch = s.launch := rfl

/-! ## jumpTo -/

@[simp] theorem State.jumpTo_gpr (t : QWord) : (s.jumpTo t).gpr = s.gpr := rfl
@[simp] theorem State.jumpTo_bank (t : QWord) : (s.jumpTo t).bank = s.bank := rfl
@[simp] theorem State.jumpTo_pc (t : QWord) : (s.jumpTo t).pc = t := rfl
@[simp] theorem State.jumpTo_pending (t : QWord) : (s.jumpTo t).pending = s.pending := rfl
@[simp] theorem State.jumpTo_sr (t : QWord) : (s.jumpTo t).sr = s.sr := rfl
@[simp] theorem State.jumpTo_gbr (t : QWord) : (s.jumpTo t).gbr = s.gbr := rfl
@[simp] theorem State.jumpTo_vbr (t : QWord) : (s.jumpTo t).vbr = s.vbr := rfl
@[simp] theorem State.jumpTo_ssr (t : QWord) : (s.jumpTo t).ssr = s.ssr := rfl
@[simp] theorem State.jumpTo_spc (t : QWord) : (s.jumpTo t).spc = s.spc := rfl
@[simp] theorem State.jumpTo_sgr (t : QWord) : (s.jumpTo t).sgr = s.sgr := rfl
@[simp] theorem State.jumpTo_dbr (t : QWord) : (s.jumpTo t).dbr = s.dbr := rfl
@[simp] theorem State.jumpTo_mach (t : QWord) : (s.jumpTo t).mach = s.mach := rfl
@[simp] theorem State.jumpTo_macl (t : QWord) : (s.jumpTo t).macl = s.macl := rfl
@[simp] theorem State.jumpTo_pr (t : QWord) : (s.jumpTo t).pr = s.pr := rfl
@[simp] theorem State.jumpTo_fpul (t : QWord) : (s.jumpTo t).fpul = s.fpul := rfl
@[simp] theorem State.jumpTo_fpscr (t : QWord) : (s.jumpTo t).fpscr = s.fpscr := rfl
@[simp] theorem State.jumpTo_fr (t : QWord) : (s.jumpTo t).fr = s.fr := rfl
@[simp] theorem State.jumpTo_xf (t : QWord) : (s.jumpTo t).xf = s.xf := rfl
@[simp] theorem State.jumpTo_sleeping (t : QWord) : (s.jumpTo t).sleeping = s.sleeping := rfl
@[simp] theorem State.jumpTo_mem (t : QWord) : (s.jumpTo t).mem = s.mem := rfl
@[simp] theorem State.jumpTo_records (t : QWord) : (s.jumpTo t).records = s.records := rfl
@[simp] theorem State.jumpTo_runEnded (t : QWord) : (s.jumpTo t).runEnded = s.runEnded := rfl
@[simp] theorem State.jumpTo_freeIndex (t : QWord) : (s.jumpTo t).freeIndex = s.freeIndex := rfl
@[simp] theorem State.jumpTo_launch (t : QWord) : (s.jumpTo t).launch = s.launch := rfl

/-! ## delayed -/

@[simp] theorem State.delayed_gpr (l : Len) (t : QWord) : (s.delayed l t).gpr = s.gpr := rfl
@[simp] theorem State.delayed_bank (l : Len) (t : QWord) : (s.delayed l t).bank = s.bank := rfl
@[simp] theorem State.delayed_pc (l : Len) (t : QWord) : (s.delayed l t).pc = s.pc + BitVec.ofNat 64 l.bytes := rfl
@[simp] theorem State.delayed_pending (l : Len) (t : QWord) : (s.delayed l t).pending = some ⟨t, s.pc⟩ := rfl
@[simp] theorem State.delayed_sr (l : Len) (t : QWord) : (s.delayed l t).sr = s.sr := rfl
@[simp] theorem State.delayed_gbr (l : Len) (t : QWord) : (s.delayed l t).gbr = s.gbr := rfl
@[simp] theorem State.delayed_vbr (l : Len) (t : QWord) : (s.delayed l t).vbr = s.vbr := rfl
@[simp] theorem State.delayed_ssr (l : Len) (t : QWord) : (s.delayed l t).ssr = s.ssr := rfl
@[simp] theorem State.delayed_spc (l : Len) (t : QWord) : (s.delayed l t).spc = s.spc := rfl
@[simp] theorem State.delayed_sgr (l : Len) (t : QWord) : (s.delayed l t).sgr = s.sgr := rfl
@[simp] theorem State.delayed_dbr (l : Len) (t : QWord) : (s.delayed l t).dbr = s.dbr := rfl
@[simp] theorem State.delayed_mach (l : Len) (t : QWord) : (s.delayed l t).mach = s.mach := rfl
@[simp] theorem State.delayed_macl (l : Len) (t : QWord) : (s.delayed l t).macl = s.macl := rfl
@[simp] theorem State.delayed_pr (l : Len) (t : QWord) : (s.delayed l t).pr = s.pr := rfl
@[simp] theorem State.delayed_fpul (l : Len) (t : QWord) : (s.delayed l t).fpul = s.fpul := rfl
@[simp] theorem State.delayed_fpscr (l : Len) (t : QWord) : (s.delayed l t).fpscr = s.fpscr := rfl
@[simp] theorem State.delayed_fr (l : Len) (t : QWord) : (s.delayed l t).fr = s.fr := rfl
@[simp] theorem State.delayed_xf (l : Len) (t : QWord) : (s.delayed l t).xf = s.xf := rfl
@[simp] theorem State.delayed_sleeping (l : Len) (t : QWord) : (s.delayed l t).sleeping = s.sleeping := rfl
@[simp] theorem State.delayed_mem (l : Len) (t : QWord) : (s.delayed l t).mem = s.mem := rfl
@[simp] theorem State.delayed_records (l : Len) (t : QWord) : (s.delayed l t).records = s.records := rfl
@[simp] theorem State.delayed_runEnded (l : Len) (t : QWord) : (s.delayed l t).runEnded = s.runEnded := rfl
@[simp] theorem State.delayed_freeIndex (l : Len) (t : QWord) : (s.delayed l t).freeIndex = s.freeIndex := rfl
@[simp] theorem State.delayed_launch (l : Len) (t : QWord) : (s.delayed l t).launch = s.launch := rfl

/-! ## writeMem -/

@[simp] theorem State.writeMem_gpr (a : QWord) (n v : Nat) : (s.writeMem a n v).gpr = s.gpr := rfl
@[simp] theorem State.writeMem_bank (a : QWord) (n v : Nat) : (s.writeMem a n v).bank = s.bank := rfl
@[simp] theorem State.writeMem_pc (a : QWord) (n v : Nat) : (s.writeMem a n v).pc = s.pc := rfl
@[simp] theorem State.writeMem_pending (a : QWord) (n v : Nat) : (s.writeMem a n v).pending = s.pending := rfl
@[simp] theorem State.writeMem_sr (a : QWord) (n v : Nat) : (s.writeMem a n v).sr = s.sr := rfl
@[simp] theorem State.writeMem_gbr (a : QWord) (n v : Nat) : (s.writeMem a n v).gbr = s.gbr := rfl
@[simp] theorem State.writeMem_vbr (a : QWord) (n v : Nat) : (s.writeMem a n v).vbr = s.vbr := rfl
@[simp] theorem State.writeMem_ssr (a : QWord) (n v : Nat) : (s.writeMem a n v).ssr = s.ssr := rfl
@[simp] theorem State.writeMem_spc (a : QWord) (n v : Nat) : (s.writeMem a n v).spc = s.spc := rfl
@[simp] theorem State.writeMem_sgr (a : QWord) (n v : Nat) : (s.writeMem a n v).sgr = s.sgr := rfl
@[simp] theorem State.writeMem_dbr (a : QWord) (n v : Nat) : (s.writeMem a n v).dbr = s.dbr := rfl
@[simp] theorem State.writeMem_mach (a : QWord) (n v : Nat) : (s.writeMem a n v).mach = s.mach := rfl
@[simp] theorem State.writeMem_macl (a : QWord) (n v : Nat) : (s.writeMem a n v).macl = s.macl := rfl
@[simp] theorem State.writeMem_pr (a : QWord) (n v : Nat) : (s.writeMem a n v).pr = s.pr := rfl
@[simp] theorem State.writeMem_fpul (a : QWord) (n v : Nat) : (s.writeMem a n v).fpul = s.fpul := rfl
@[simp] theorem State.writeMem_fpscr (a : QWord) (n v : Nat) : (s.writeMem a n v).fpscr = s.fpscr := rfl
@[simp] theorem State.writeMem_fr (a : QWord) (n v : Nat) : (s.writeMem a n v).fr = s.fr := rfl
@[simp] theorem State.writeMem_xf (a : QWord) (n v : Nat) : (s.writeMem a n v).xf = s.xf := rfl
@[simp] theorem State.writeMem_sleeping (a : QWord) (n v : Nat) : (s.writeMem a n v).sleeping = s.sleeping := rfl
@[simp] theorem State.writeMem_mem (a : QWord) (n v : Nat) : (s.writeMem a n v).mem =
    memWrite s.mem (s.launch.locate a) n v := rfl
@[simp] theorem State.writeMem_records (a : QWord) (n v : Nat) : (s.writeMem a n v).records = s.records := rfl
@[simp] theorem State.writeMem_runEnded (a : QWord) (n v : Nat) : (s.writeMem a n v).runEnded = s.runEnded := rfl
@[simp] theorem State.writeMem_freeIndex (a : QWord) (n v : Nat) : (s.writeMem a n v).freeIndex = s.freeIndex := rfl
@[simp] theorem State.writeMem_launch (a : QWord) (n v : Nat) : (s.writeMem a n v).launch = s.launch := rfl

/-! ## drawn -/

@[simp] theorem State.drawn_gpr  : (s.drawn).gpr = s.gpr := rfl
@[simp] theorem State.drawn_bank  : (s.drawn).bank = s.bank := rfl
@[simp] theorem State.drawn_pc  : (s.drawn).pc = s.pc := rfl
@[simp] theorem State.drawn_pending  : (s.drawn).pending = s.pending := rfl
@[simp] theorem State.drawn_sr  : (s.drawn).sr = s.sr := rfl
@[simp] theorem State.drawn_gbr  : (s.drawn).gbr = s.gbr := rfl
@[simp] theorem State.drawn_vbr  : (s.drawn).vbr = s.vbr := rfl
@[simp] theorem State.drawn_ssr  : (s.drawn).ssr = s.ssr := rfl
@[simp] theorem State.drawn_spc  : (s.drawn).spc = s.spc := rfl
@[simp] theorem State.drawn_sgr  : (s.drawn).sgr = s.sgr := rfl
@[simp] theorem State.drawn_dbr  : (s.drawn).dbr = s.dbr := rfl
@[simp] theorem State.drawn_mach  : (s.drawn).mach = s.mach := rfl
@[simp] theorem State.drawn_macl  : (s.drawn).macl = s.macl := rfl
@[simp] theorem State.drawn_pr  : (s.drawn).pr = s.pr := rfl
@[simp] theorem State.drawn_fpul  : (s.drawn).fpul = s.fpul := rfl
@[simp] theorem State.drawn_fpscr  : (s.drawn).fpscr = s.fpscr := rfl
@[simp] theorem State.drawn_fr  : (s.drawn).fr = s.fr := rfl
@[simp] theorem State.drawn_xf  : (s.drawn).xf = s.xf := rfl
@[simp] theorem State.drawn_sleeping  : (s.drawn).sleeping = s.sleeping := rfl
@[simp] theorem State.drawn_mem  : (s.drawn).mem = s.mem := rfl
@[simp] theorem State.drawn_records  : (s.drawn).records = s.records := rfl
@[simp] theorem State.drawn_runEnded  : (s.drawn).runEnded = s.runEnded := rfl
@[simp] theorem State.drawn_freeIndex  : (s.drawn).freeIndex = s.freeIndex + 1 := rfl
@[simp] theorem State.drawn_launch  : (s.drawn).launch = s.launch := rfl

/-! ## setPair -/

@[simp] theorem State.setPair_gpr (r : Nibble) (d : QWord) : (s.setPair r d).gpr = s.gpr := by
  unfold State.setPair; split <;> rfl
@[simp] theorem State.setPair_bank (r : Nibble) (d : QWord) : (s.setPair r d).bank = s.bank := by
  unfold State.setPair; split <;> rfl
@[simp] theorem State.setPair_pc (r : Nibble) (d : QWord) : (s.setPair r d).pc = s.pc := by
  unfold State.setPair; split <;> rfl
@[simp] theorem State.setPair_pending (r : Nibble) (d : QWord) : (s.setPair r d).pending = s.pending := by
  unfold State.setPair; split <;> rfl
@[simp] theorem State.setPair_sr (r : Nibble) (d : QWord) : (s.setPair r d).sr = s.sr := by
  unfold State.setPair; split <;> rfl
@[simp] theorem State.setPair_gbr (r : Nibble) (d : QWord) : (s.setPair r d).gbr = s.gbr := by
  unfold State.setPair; split <;> rfl
@[simp] theorem State.setPair_vbr (r : Nibble) (d : QWord) : (s.setPair r d).vbr = s.vbr := by
  unfold State.setPair; split <;> rfl
@[simp] theorem State.setPair_ssr (r : Nibble) (d : QWord) : (s.setPair r d).ssr = s.ssr := by
  unfold State.setPair; split <;> rfl
@[simp] theorem State.setPair_spc (r : Nibble) (d : QWord) : (s.setPair r d).spc = s.spc := by
  unfold State.setPair; split <;> rfl
@[simp] theorem State.setPair_sgr (r : Nibble) (d : QWord) : (s.setPair r d).sgr = s.sgr := by
  unfold State.setPair; split <;> rfl
@[simp] theorem State.setPair_dbr (r : Nibble) (d : QWord) : (s.setPair r d).dbr = s.dbr := by
  unfold State.setPair; split <;> rfl
@[simp] theorem State.setPair_mach (r : Nibble) (d : QWord) : (s.setPair r d).mach = s.mach := by
  unfold State.setPair; split <;> rfl
@[simp] theorem State.setPair_macl (r : Nibble) (d : QWord) : (s.setPair r d).macl = s.macl := by
  unfold State.setPair; split <;> rfl
@[simp] theorem State.setPair_pr (r : Nibble) (d : QWord) : (s.setPair r d).pr = s.pr := by
  unfold State.setPair; split <;> rfl
@[simp] theorem State.setPair_fpul (r : Nibble) (d : QWord) : (s.setPair r d).fpul = s.fpul := by
  unfold State.setPair; split <;> rfl
@[simp] theorem State.setPair_fpscr (r : Nibble) (d : QWord) : (s.setPair r d).fpscr = s.fpscr := by
  unfold State.setPair; split <;> rfl
@[simp] theorem State.setPair_sleeping (r : Nibble) (d : QWord) : (s.setPair r d).sleeping = s.sleeping := by
  unfold State.setPair; split <;> rfl
@[simp] theorem State.setPair_mem (r : Nibble) (d : QWord) : (s.setPair r d).mem = s.mem := by
  unfold State.setPair; split <;> rfl
@[simp] theorem State.setPair_records (r : Nibble) (d : QWord) : (s.setPair r d).records = s.records := by
  unfold State.setPair; split <;> rfl
@[simp] theorem State.setPair_runEnded (r : Nibble) (d : QWord) : (s.setPair r d).runEnded = s.runEnded := by
  unfold State.setPair; split <;> rfl
@[simp] theorem State.setPair_freeIndex (r : Nibble) (d : QWord) : (s.setPair r d).freeIndex = s.freeIndex := by
  unfold State.setPair; split <;> rfl
@[simp] theorem State.setPair_launch (r : Nibble) (d : QWord) : (s.setPair r d).launch = s.launch := by
  unfold State.setPair; split <;> rfl

/-! ## retire -/

@[simp] theorem State.retire_gpr (l : Len) : (s.retire l).gpr = s.gpr := by
  unfold State.retire; split <;> rfl
@[simp] theorem State.retire_bank (l : Len) : (s.retire l).bank = s.bank := by
  unfold State.retire; split <;> rfl
@[simp] theorem State.retire_pending (l : Len) : (s.retire l).pending = none := by
  unfold State.retire; split <;> simp_all
@[simp] theorem State.retire_sr (l : Len) : (s.retire l).sr = s.sr := by
  unfold State.retire; split <;> rfl
@[simp] theorem State.retire_gbr (l : Len) : (s.retire l).gbr = s.gbr := by
  unfold State.retire; split <;> rfl
@[simp] theorem State.retire_vbr (l : Len) : (s.retire l).vbr = s.vbr := by
  unfold State.retire; split <;> rfl
@[simp] theorem State.retire_ssr (l : Len) : (s.retire l).ssr = s.ssr := by
  unfold State.retire; split <;> rfl
@[simp] theorem State.retire_spc (l : Len) : (s.retire l).spc = s.spc := by
  unfold State.retire; split <;> rfl
@[simp] theorem State.retire_sgr (l : Len) : (s.retire l).sgr = s.sgr := by
  unfold State.retire; split <;> rfl
@[simp] theorem State.retire_dbr (l : Len) : (s.retire l).dbr = s.dbr := by
  unfold State.retire; split <;> rfl
@[simp] theorem State.retire_mach (l : Len) : (s.retire l).mach = s.mach := by
  unfold State.retire; split <;> rfl
@[simp] theorem State.retire_macl (l : Len) : (s.retire l).macl = s.macl := by
  unfold State.retire; split <;> rfl
@[simp] theorem State.retire_pr (l : Len) : (s.retire l).pr = s.pr := by
  unfold State.retire; split <;> rfl
@[simp] theorem State.retire_fpul (l : Len) : (s.retire l).fpul = s.fpul := by
  unfold State.retire; split <;> rfl
@[simp] theorem State.retire_fpscr (l : Len) : (s.retire l).fpscr = s.fpscr := by
  unfold State.retire; split <;> rfl
@[simp] theorem State.retire_fr (l : Len) : (s.retire l).fr = s.fr := by
  unfold State.retire; split <;> rfl
@[simp] theorem State.retire_xf (l : Len) : (s.retire l).xf = s.xf := by
  unfold State.retire; split <;> rfl
@[simp] theorem State.retire_sleeping (l : Len) : (s.retire l).sleeping = s.sleeping := by
  unfold State.retire; split <;> rfl
@[simp] theorem State.retire_mem (l : Len) : (s.retire l).mem = s.mem := by
  unfold State.retire; split <;> rfl
@[simp] theorem State.retire_records (l : Len) : (s.retire l).records = s.records := by
  unfold State.retire; split <;> rfl
@[simp] theorem State.retire_runEnded (l : Len) : (s.retire l).runEnded = s.runEnded := by
  unfold State.retire; split <;> rfl
@[simp] theorem State.retire_freeIndex (l : Len) : (s.retire l).freeIndex = s.freeIndex := by
  unfold State.retire; split <;> rfl
@[simp] theorem State.retire_launch (l : Len) : (s.retire l).launch = s.launch := by
  unfold State.retire; split <;> rfl

/-! ## Registers -/

theorem State.reg_setReg (r d : BitVec 5) (v : QWord) :
    (s.setReg d v).reg r = if r = d then v else s.reg r := by
  unfold State.reg State.setReg
  simp only [Vector.getElem_set]
  by_cases h : r = d
  · subst h; simp
  · rw [if_neg h, if_neg (fun e => h (BitVec.eq_of_toNat_eq e.symm))]

@[simp] theorem State.reg_setReg_self (d : BitVec 5) (v : QWord) : (s.setReg d v).reg d = v := by
  simp [State.reg_setReg]

@[simp] theorem State.reg_setReg_ne {r d : BitVec 5} (h : r ≠ d) (v : QWord) : (s.setReg d v).reg r = s.reg r := by
  simp [State.reg_setReg, h]

theorem State.bankReg_setBankReg (r d : BitVec 3) (v : QWord) :
    (s.setBankReg d v).bankReg r = if r = d then v else s.bankReg r := by
  unfold State.bankReg State.setBankReg
  simp only [Vector.getElem_set]
  by_cases h : r = d
  · subst h; simp
  · rw [if_neg h, if_neg (fun e => h (BitVec.eq_of_toNat_eq e.symm))]

theorem State.frReg_setFrReg (r d : Nibble) (v : DWord) :
    (s.setFrReg d v).frReg r = if r = d then v else s.frReg r := by
  unfold State.frReg State.setFrReg
  simp only [Vector.getElem_set]
  by_cases h : r = d
  · subst h; simp
  · rw [if_neg h, if_neg (fun e => h (BitVec.eq_of_toNat_eq e.symm))]

/-- A register reads from its array alone. -/
theorem State.reg_of_gpr {s t : State} (h : t.gpr = s.gpr) (r : BitVec 5) : t.reg r = s.reg r := by
  unfold State.reg; simp [h]

/-- A banked register reads from its array alone. -/
theorem State.bankReg_of_bank {s t : State} (h : t.bank = s.bank) (r : BitVec 3) : t.bankReg r = s.bankReg r := by
  unfold State.bankReg; simp [h]

/-- An FR register reads from its array alone. -/
theorem State.frReg_of_fr {s t : State} (h : t.fr = s.fr) (r : Nibble) : t.frReg r = s.frReg r := by
  unfold State.frReg; simp [h]

/-- What an instruction that does not branch leaves in PC. -/
theorem State.retire_pc (l : Len) :
    (s.retire l).pc = match s.pending with
      | some p => p.target
      | none => s.pc + BitVec.ofNat 64 l.bytes := by
  unfold State.retire; cases s.pending <;> rfl

end Sys2Proof.Machine
end

