-- ==== Sys2Proof/Laws/Ops.lean ====
section
/-!
SUPPORT. Sys2Proof/Laws/Ops.lean: what each shared operation keeps, when it answers a next state, and everything it can
answer, said once, so that no later proof unfolds one.
-/
namespace Sys2Proof.Machine

/-! ## Frames -/

theorem State.KeepsBut.refl (s : State) (l : List Part) : s.KeepsBut s l := by
  intro p _; cases p <;> rfl

theorem State.KeepsBut.trans {s t u : State} {a b : List Part} (h1 : s.KeepsBut t a) (h2 : t.KeepsBut u b) :
    s.KeepsBut u (a ++ b) := by
  intro p hp
  have ha := h1 p (fun h => hp (List.mem_append_left b h))
  have hb := h2 p (fun h => hp (List.mem_append_right a h))
  cases p <;> exact Eq.trans hb ha

theorem State.KeepsBut.mono {s t : State} {a b : List Part} (h : s.KeepsBut t a) (hs : a ⊆ b) : s.KeepsBut t b :=
  fun p hp => h p (fun hm => hp (hs hm))

theorem keeps_gbr (s : State) (v : QWord) : s.KeepsBut { s with gbr := v } [.gbr] := by
  intro p hp; cases p <;> first | rfl | simp at hp

theorem keeps_vbr (s : State) (v : QWord) : s.KeepsBut { s with vbr := v } [.vbr] := by
  intro p hp; cases p <;> first | rfl | simp at hp

theorem keeps_ssr (s : State) (v : DWord) : s.KeepsBut { s with ssr := v } [.ssr] := by
  intro p hp; cases p <;> first | rfl | simp at hp

theorem keeps_spc (s : State) (v : QWord) : s.KeepsBut { s with spc := v } [.spc] := by
  intro p hp; cases p <;> first | rfl | simp at hp

theorem keeps_dbr (s : State) (v : QWord) : s.KeepsBut { s with dbr := v } [.dbr] := by
  intro p hp; cases p <;> first | rfl | simp at hp

theorem keeps_mach (s : State) (v : DWord) : s.KeepsBut { s with mach := v } [.mach] := by
  intro p hp; cases p <;> first | rfl | simp at hp

theorem keeps_macl (s : State) (v : DWord) : s.KeepsBut { s with macl := v } [.macl] := by
  intro p hp; cases p <;> first | rfl | simp at hp

theorem keeps_pr (s : State) (v : QWord) : s.KeepsBut { s with pr := v } [.pr] := by
  intro p hp; cases p <;> first | rfl | simp at hp

theorem keeps_fpul (s : State) (v : DWord) : s.KeepsBut { s with fpul := v } [.fpul] := by
  intro p hp; cases p <;> first | rfl | simp at hp

theorem keeps_fpscr (s : State) (v : DWord) : s.KeepsBut { s with fpscr := v } [.fpscr] := by
  intro p hp; cases p <;> first | rfl | simp at hp

theorem keeps_retire (s : State) (l : Len) : s.KeepsBut (s.retire l) [] := by
  intro p _; unfold State.retire; cases s.pending <;> cases p <;> rfl

theorem keeps_jumpTo (s : State) (a : QWord) : s.KeepsBut (s.jumpTo a) [] := by
  intro p _; cases p <;> rfl

theorem keeps_delayed (s : State) (l : Len) (a : QWord) : s.KeepsBut (s.delayed l a) [] := by
  intro p _; cases p <;> rfl

theorem keeps_sleeping (s : State) : s.KeepsBut { s with sleeping := true } [.sleeping] := by
  intro p hp; cases p <;> first | rfl | simp at hp

theorem keeps_drawn (s : State) : s.KeepsBut s.drawn [.freeIndex] := by
  intro p hp; cases p <;> first | rfl | simp at hp

theorem keeps_setReg (s : State) (d : BitVec 5) (v : QWord) : s.KeepsBut (s.setReg d v) [.reg d] := by
  intro p hp
  cases p with
  | reg r => exact State.reg_setReg_ne s (by simpa using hp) v
  | _ => rfl

theorem keeps_setBankReg (s : State) (d : BitVec 3) (v : QWord) : s.KeepsBut (s.setBankReg d v) [.bank d] := by
  intro p hp
  cases p with
  | bank r =>
    have h : r ≠ d := by simpa using hp
    simp [Part.same, State.bankReg_setBankReg, h]
  | _ => rfl

theorem keeps_setFrReg (s : State) (d : Nibble) (v : DWord) : s.KeepsBut (s.setFrReg d v) [.fr d] := by
  intro p hp
  cases p with
  | fr r =>
    have h : r ≠ d := by simpa using hp
    simp [Part.same, State.frReg_setFrReg, h]
  | _ => rfl

/-- A register that is no half of a pair is left alone when the pair is written. -/
theorem getElem_setPairIn_ne (v : Vector DWord 16) (r q : Nibble) (d : QWord) (h1 : q ≠ pairHigh r) (h2 : q ≠ pairLow r) :
    (setPairIn v r d)[q.toNat]'q.isLt = v[q.toNat]'q.isLt := by
  have e1 : ¬(pairHigh r).toNat = q.toNat := fun e => h1 (BitVec.eq_of_toNat_eq e.symm)
  have e2 : ¬(pairLow r).toNat = q.toNat := fun e => h2 (BitVec.eq_of_toNat_eq e.symm)
  simp [setPairIn, e1, e2]

theorem keeps_setPair (s : State) (r : Nibble) (d : QWord) : s.KeepsBut (s.setPair r d) (Part.pair r) := by
  intro p hp
  unfold State.setPair Part.pair at *
  split
  · rename_i h
    cases p with
    | xf q =>
      rw [if_pos h] at hp
      simp only [List.mem_cons, Part.xf.injEq, List.not_mem_nil, or_false, not_or] at hp
      exact getElem_setPairIn_ne s.xf r q d hp.1 hp.2
    | _ => rfl
  · rename_i h
    cases p with
    | fr q =>
      rw [if_neg h] at hp
      simp only [List.mem_cons, Part.fr.injEq, List.not_mem_nil, or_false, not_or] at hp
      exact getElem_setPairIn_ne s.fr r q d hp.1 hp.2
    | _ => rfl

theorem keeps_setT (s : State) (b : Bool) : s.KeepsBut (s.setT b) [.t] := by
  intro p hp
  cases p with
  | srBit i =>
    have h : i ≠ Config.srT := fun e => hp (by simp [Part.t, e])
    exact (setBitTo_bit s.sr Config.srT i b (by decide)).trans (if_neg h)
  | _ => rfl

theorem keeps_setS (s : State) (b : Bool) : s.KeepsBut (s.setS b) [.s] := by
  intro p hp
  cases p with
  | srBit i =>
    have h : i ≠ Config.srS := fun e => hp (by simp [Part.s, e])
    exact (setBitTo_bit s.sr Config.srS i b (by decide)).trans (if_neg h)
  | _ => rfl

theorem keeps_setQ (s : State) (b : Bool) : s.KeepsBut (s.setQ b) [.q] := by
  intro p hp
  cases p with
  | srBit i =>
    have h : i ≠ Config.srQ := fun e => hp (by simp [Part.q, e])
    exact (setBitTo_bit s.sr Config.srQ i b (by decide)).trans (if_neg h)
  | _ => rfl

theorem keeps_setM (s : State) (b : Bool) : s.KeepsBut (s.setM b) [.m] := by
  intro p hp
  cases p with
  | srBit i =>
    have h : i ≠ Config.srM := fun e => hp (by simp [Part.m, e])
    exact (setBitTo_bit s.sr Config.srM i b (by decide)).trans (if_neg h)
  | _ => rfl

theorem keeps_setSr (s : State) (v : DWord) : s.KeepsBut { s with sr := v } Part.allSr := by
  intro p hp
  cases p with
  | srBit i =>
    have h : 32 ≤ i := by
      by_cases hi : i < 32
      · exact absurd (by simp [Part.allSr, hi]) hp
      · omega
    simp [Part.same, BitVec.getLsbD_of_ge _ _ h]
  | _ => rfl

theorem keeps_writeMem (s : State) (a : QWord) (n v : Nat) : s.KeepsBut (s.writeMem a n v) (s.bytesAt a n) := by
  intro p hp
  cases p with
  | byte b =>
    have h : ¬(s.launch.locate a ≤ b ∧ b < s.launch.locate a + n) := by
      rintro ⟨h1, h2⟩
      refine hp (List.mem_map.2 ⟨b - s.launch.locate a, List.mem_range.2 (by omega), ?_⟩)
      congr 1; omega
    simp only [Part.same, State.writeMem_mem, memGet_memWrite, if_neg h]
  | _ => rfl

/-! ## What the updates leave -/

@[simp] theorem State.reg_retire (s : State) (l : Len) (r : BitVec 5) : (s.retire l).reg r = s.reg r :=
  State.reg_of_gpr (by simp) r
@[simp] theorem State.bankReg_retire (s : State) (l : Len) (r : BitVec 3) : (s.retire l).bankReg r = s.bankReg r :=
  State.bankReg_of_bank (by simp) r
@[simp] theorem State.frReg_retire (s : State) (l : Len) (r : Nibble) : (s.retire l).frReg r = s.frReg r :=
  State.frReg_of_fr (by simp) r
@[simp] theorem State.flagT_retire (s : State) (l : Len) : (s.retire l).flagT = s.flagT := by simp [State.flagT]
@[simp] theorem State.flagS_retire (s : State) (l : Len) : (s.retire l).flagS = s.flagS := by simp [State.flagS]
@[simp] theorem State.flagQ_retire (s : State) (l : Len) : (s.retire l).flagQ = s.flagQ := by simp [State.flagQ]
@[simp] theorem State.flagM_retire (s : State) (l : Len) : (s.retire l).flagM = s.flagM := by simp [State.flagM]
@[simp] theorem State.reg_setT (s : State) (b : Bool) (r : BitVec 5) : (s.setT b).reg r = s.reg r := rfl
@[simp] theorem State.flagT_setReg (s : State) (d : BitVec 5) (v : QWord) : (s.setReg d v).flagT = s.flagT := rfl
@[simp] theorem State.flagT_setT (s : State) (b : Bool) : (s.setT b).flagT = b :=
  (setBitTo_bit s.sr Config.srT Config.srT b (by decide)).trans (if_pos rfl)
@[simp] theorem State.flagS_setS (s : State) (b : Bool) : (s.setS b).flagS = b :=
  (setBitTo_bit s.sr Config.srS Config.srS b (by decide)).trans (if_pos rfl)
@[simp] theorem State.flagQ_setQ (s : State) (b : Bool) : (s.setQ b).flagQ = b :=
  (setBitTo_bit s.sr Config.srQ Config.srQ b (by decide)).trans (if_pos rfl)
@[simp] theorem State.flagM_setM (s : State) (b : Bool) : (s.setM b).flagM = b :=
  (setBitTo_bit s.sr Config.srM Config.srM b (by decide)).trans (if_pos rfl)

/-- A pair reads back what was written to it. -/
@[simp] theorem State.pair_setPair (s : State) (r : Nibble) (d : QWord) : (s.setPair r d).pair r = d := by
  have hne : (pairHigh r).toNat ≠ (pairLow r).toNat := by revert r; decide
  have e : d.extractLsb' 32 32 ++ d.extractLsb' 0 32 = d := by
    apply BitVec.eq_of_getLsbD_eq
    intro i hi
    simp only [BitVec.getLsbD_append, BitVec.getLsbD_extractLsb']
    grind
  unfold State.setPair State.pair
  split <;> simp [setPairIn, hne.symm, e]

/-- A pair is not changed by what changes neither bank. -/
theorem State.pair_of_banks {s t : State} (h1 : t.fr = s.fr) (h2 : t.xf = s.xf) (r : Nibble) : t.pair r = s.pair r := by
  unfold State.pair; simp [h1, h2]

@[simp] theorem State.pair_retire (s : State) (l : Len) (r : Nibble) : (s.retire l).pair r = s.pair r :=
  State.pair_of_banks (by simp) (by simp) r

/-- The machine goes on after an instruction that ends by advancing. -/
theorem goesOn_retire {s u : State} (l : Len) (h1 : u.pc = s.pc) (h2 : u.pending = s.pending) :
    s.GoesOn l (u.retire l) := by
  unfold State.GoesOn State.following State.retire
  rw [h2]
  cases s.pending <;> simp [h1]

/-! ## Delay slots and profiles -/

theorem notInSlot_next {s : State} {k : Result} (h : s.pending = none) : notInSlot s k = k := by
  simp [notInSlot, State.inSlot, h]

theorem notInSlot_raises {s : State} {k : Result} (h : s.pending.isSome = true) :
    notInSlot s k = raise .slotIllegalInstruction s := by
  simp [notInSlot, State.inSlot, h]

theorem inForm_short (s : State) (k : Result) : inForm .short s k = k := rfl

theorem inForm_next {l : Len} {s : State} {k : Result} (h : l = .long → s.pending = none) : inForm l s k = k := by
  cases l
  · rfl
  · exact notInSlot_next (h rfl)

theorem fpuGuard_next {s : State} {k : Result} (h : s.launch.fpuProfile ≠ .none) : fpuGuard s k = k := by
  simp [fpuGuard, h]

theorem fpuGuard_raises {s : State} {k : Result} (h : s.launch.fpuProfile = .none) :
    fpuGuard s k = raise .fpuDisabled s := by
  simp [fpuGuard, h]

theorem needPair_next {s : State} {r : Nibble} {k : Result} (h : s.pairOk r = true) : needPair r s k = k := by
  simp [needPair, h]

theorem onlyWhenPr_next {s : State} {pr : Bool} {k : Result} (h : s.fpPr = pr) : onlyWhenPr pr s k = k := by
  simp [onlyWhenPr, h]

/-! ## Memory -/

theorem load_next {a : QWord} {n v : Nat} {s : State} {k : Nat → Result} (h : s.Loads a n v) :
    load a n s k = k v := by
  simp [load, h.1, h.2]

theorem load_raises {a : QWord} {n : Nat} {s : State} {k : Nat → Result} (h : s.accessOk .read a n = false) :
    load a n s k = raise (.addressError a .read) s := by
  simp [load, h]

theorem store_next {a : QWord} {n v : Nat} {s : State} {k : State → Result} (h : s.Stores a n) :
    store a n v s k = k (s.writeMem a n v) := by
  have h' : s.accessOk .write a n = true := h
  simp [store, h']

theorem store_raises {a : QWord} {n v : Nat} {s : State} {k : State → Result} (h : s.accessOk .write a n = false) :
    store a n v s k = raise (.addressError a .write) s := by
  simp [store, h]

/-- Everything a load can answer. -/
theorem load_cases (a : QWord) (n : Nat) (s : State) (k : Nat → Result) :
    (∃ v, s.Loads a n v ∧ load a n s k = k v) ∨ load a n s k = .fault (.unwritten a) ∨
      (s.accessOk .read a n = false ∧ load a n s k = raise (.addressError a .read) s) := by
  unfold load
  by_cases h : s.accessOk .read a n = true
  · cases e : memRead s.mem (s.launch.locate a) n with
    | none => simp [h]
    | some v => exact .inl ⟨v, ⟨h, e⟩, by simp [h]⟩
  · exact .inr (.inr ⟨by simpa using h, by simp [h]⟩)

/-- Everything a store can answer. -/
theorem store_cases (a : QWord) (n v : Nat) (s : State) (k : State → Result) :
    (s.Stores a n ∧ store a n v s k = k (s.writeMem a n v)) ∨
      (s.accessOk .write a n = false ∧ store a n v s k = raise (.addressError a .write) s) := by
  unfold store State.Stores
  cases h : s.accessOk .write a n <;> simp

/-- What `check` asks of an access. -/
theorem accessOk_le {s : State} {kind : AccessKind} {a : QWord} {n : Nat} (h : s.accessOk kind a n = true) :
    s.launch.locate a + n ≤ s.launch.space := by
  simp only [State.accessOk, Launch.mapped, Bool.and_eq_true, decide_eq_true_eq] at h
  exact h.2.1

theorem accessOk_top {s : State} {kind : AccessKind} {a : QWord} {n : Nat} (h : s.accessOk kind a n = true) :
    s.launch.locate a + n ≤ 2 ^ 64 := Nat.le_trans (accessOk_le h) s.launch.space_le

/-- A write that `check` admits keeps the canonical form. -/
theorem memWf_writeMem {s : State} {a : QWord} {n : Nat} (v : Nat) (h : memWf s.mem = true)
    (hs : s.accessOk .write a n = true) : memWf (s.writeMem a n v).mem = true :=
  memWf_memWrite v h (accessOk_top hs)

/-- After a write the bytes hold the value. -/
theorem holds_writeMem (s : State) (a : QWord) (n v : Nat) : (s.writeMem a n v).Holds a n v := by
  intro k hk
  have h : s.launch.locate a ≤ s.launch.locate a + k ∧ s.launch.locate a + k < s.launch.locate a + n := by omega
  simp only [State.writeMem_launch, State.writeMem_mem, memGet_memWrite, if_pos h]
  congr 3; congr 1; omega

/-- What the bytes hold depends on memory and the address space alone. -/
theorem State.Holds.of_mem {s t : State} {a : QWord} {n v : Nat} (h : s.Holds a n v) (e : t.mem = s.mem)
    (el : t.launch = s.launch) : t.Holds a n v := fun k hk => by rw [e, el]; exact h k hk

/-! ## Completed instructions -/

/-- An instruction that writes one register completes. -/
theorem runs_writeReg {l : Len} {i : Instr} {s : State} {d : BitVec 5} {v : QWord} {P : QWord → Prop}
    (he : exec i s = writeReg l d v s) (hl : l = .long → s.pending = none) (hv : P v) :
    Runs l i s [.reg d] fun t => P (t.reg d) :=
  ⟨_, he.trans (inForm_next hl), by simpa using hv,
    ((keeps_setReg s d v).trans (keeps_retire _ l)).mono (by simp), goesOn_retire l rfl rfl⟩

/-- An instruction that writes SR.T completes. -/
theorem runs_writeT {l : Len} {i : Instr} {s : State} {b : Bool} {P : Bool → Prop}
    (he : exec i s = writeT l b s) (hl : l = .long → s.pending = none) (hb : P b) :
    Runs l i s [.t] fun t => P t.flagT :=
  ⟨_, he.trans (inForm_next hl), by simpa using hb,
    ((keeps_setT s b).trans (keeps_retire _ l)).mono (by simp), goesOn_retire l rfl rfl⟩

/-- An instruction that writes one register and SR.T completes. -/
theorem runs_writeRegT {l : Len} {i : Instr} {s : State} {d : BitVec 5} {r : QWord × Bool} {P : QWord → Bool → Prop}
    (he : exec i s = writeRegT l d r s) (hl : l = .long → s.pending = none) (hr : P r.1 r.2) :
    Runs l i s [.reg d, .t] fun t => P (t.reg d) t.flagT :=
  ⟨_, he.trans (inForm_next hl), by simpa using hr,
    (((keeps_setReg s d r.1).trans (keeps_setT _ r.2)).trans (keeps_retire _ l)).mono (by simp),
    goesOn_retire l rfl rfl⟩

/-- A load completes where nothing stops its access. -/
theorem runs_loadReg {l : Len} {i : Instr} {s : State} {z : Size} {ext : Size → Nat → QWord} {ea : QWord}
    {d : BitVec 5} {v : Nat} {P : QWord → Prop}
    (he : exec i s = loadReg l z ext ea d s) (hl : l = .long → s.pending = none) (hv : s.Loads ea z.bytes v)
    (hp : P (ext z v)) : Runs l i s [.reg d] fun t => P (t.reg d) :=
  ⟨_, he.trans ((inForm_next hl).trans (load_next hv)), by simpa using hp,
    ((keeps_setReg s d _).trans (keeps_retire _ l)).mono (by simp), goesOn_retire l rfl rfl⟩

/-- A store completes where nothing stops its access. -/
theorem runs_storeReg {l : Len} {i : Instr} {s : State} {z : Size} {ea : QWord} {m : BitVec 5}
    (he : exec i s = storeReg l z ea m s) (hl : l = .long → s.pending = none) (hs : s.Stores ea z.bytes) :
    Runs l i s (s.bytesAt ea z.bytes) fun t => t.Holds ea z.bytes (s.reg m).toNat :=
  ⟨_, he.trans ((inForm_next hl).trans (store_next hs)),
    (holds_writeMem s ea z.bytes _).of_mem (by simp) (by simp),
    ((keeps_writeMem s ea _ _).trans (keeps_retire _ l)).mono (by simp), goesOn_retire l rfl rfl⟩

/-! ## Exceptions -/

/-- What taking an exception does when it enters the handler. -/
theorem raiseWith_vector {c : Cause} {inst : Option DWord} {s : State} (hc : c ≠ .breakpoint)
    (h : s.launch.trapEntry = .vector) : raiseWith c inst s = .next (s.enterTrap c inst) := by
  cases c <;> simp_all [raiseWith]

/-- Everything taking an exception can answer. -/
theorem raiseWith_cases (c : Cause) (inst : Option DWord) (s : State) :
    (c = .breakpoint ∧
        raiseWith c inst s = .next { s with records := s.records ++ [s.excRecord c inst], runEnded := true }) ∨
      (c ≠ .breakpoint ∧ s.launch.trapEntry = .vector ∧ raiseWith c inst s = .next (s.enterTrap c inst)) ∨
      (c ≠ .breakpoint ∧ s.launch.trapEntry = .fault ∧
        raiseWith c inst s = .fault (.exception (s.excRecord c inst))) := by
  cases h : s.launch.trapEntry <;> cases c <;> simp [raiseWith, h]

end Sys2Proof.Machine
end

