-- ==== Sys2Proof/Laws/Next.lean ====
section
/-!
SUPPORT. Sys2Proof/Laws/Next.lean: for each shared operation, what every next state it can answer satisfies, given what
the rest of the instruction gives and what an exception entry satisfies; an invariant of exec follows from these without
unfolding an operation.
-/
namespace Sys2Proof.Machine

/-- Every next state the result answers satisfies `Q`. -/
def Answers (Q : State → Prop) (r : Result) : Prop := ∀ t, r = .next t → Q t

/-- The states that an exception taken in `s` leads to satisfy `Q`: the entry into the handler, and the end of the run by
a breakpoint. -/
structure TrapsTo (s : State) (Q : State → Prop) : Prop where
  entry : ∀ c inst, Q (s.enterTrap c inst)
  ends : ∀ inst, Q { s with records := s.records ++ [s.excRecord .breakpoint inst], runEnded := true }

variable {Q : State → Prop} {s : State}

theorem Answers.mono {P : State → Prop} {r : Result} (h : Answers P r) (hq : ∀ t, P t → Q t) : Answers Q r :=
  fun t ht => hq t (h t ht)

theorem answers_next {t : State} (h : Q t) : Answers Q (.next t) := by
  intro u hu
  cases hu
  exact h

theorem answers_refused {why : Refusal} : Answers Q (.refused why) := by intro u hu; cases hu

theorem answers_fault {why : Fault} : Answers Q (.fault why) := by intro u hu; cases hu

theorem answers_raiseWith (g : TrapsTo s Q) (c : Cause) (inst : Option DWord) : Answers Q (raiseWith c inst s) := by
  rcases raiseWith_cases c inst s with ⟨rfl, h⟩ | ⟨_, _, h⟩ | ⟨_, _, h⟩ <;> rw [h]
  · exact answers_next (g.ends inst)
  · exact answers_next (g.entry c inst)
  · exact answers_fault

theorem answers_raise (g : TrapsTo s Q) (c : Cause) : Answers Q (raise c s) := answers_raiseWith g c _

theorem answers_raiseFetch (g : TrapsTo s Q) (a : QWord) : Answers Q (raiseFetch a s) := answers_raiseWith g _ _

theorem answers_raiseIllegal (g : TrapsTo s Q) : Answers Q (raiseIllegal s) := answers_raise g _

theorem answers_ite {c : Prop} [Decidable c] {a b : Result} (ha : c → Answers Q a) (hb : ¬c → Answers Q b) :
    Answers Q (if c then a else b) := by
  split
  · exact ha ‹_›
  · exact hb ‹_›

theorem answers_load (g : TrapsTo s Q) {a : QWord} {n : Nat} {k : Nat → Result}
    (h : ∀ v, s.Loads a n v → Answers Q (k v)) : Answers Q (load a n s k) := by
  rcases load_cases a n s k with ⟨v, hv, e⟩ | e | ⟨_, e⟩ <;> rw [e]
  · exact h v hv
  · exact answers_fault
  · exact answers_raise g _

theorem answers_store (g : TrapsTo s Q) {a : QWord} {n v : Nat} {k : State → Result}
    (h : s.Stores a n → Answers Q (k (s.writeMem a n v))) : Answers Q (store a n v s k) := by
  rcases store_cases a n v s k with ⟨hs, e⟩ | ⟨_, e⟩ <;> rw [e]
  · exact h hs
  · exact answers_raise g _

theorem answers_notInSlot (g : TrapsTo s Q) {k : Result} (h : s.pending = none → Answers Q k) :
    Answers Q (notInSlot s k) := by
  refine answers_ite (fun _ => answers_raise g _) fun hp => h ?_
  simpa [State.inSlot] using hp

theorem answers_inForm (g : TrapsTo s Q) {l : Len} {k : Result} (h : Answers Q k) : Answers Q (inForm l s k) := by
  cases l
  · exact h
  · exact answers_notInSlot g fun _ => h

theorem answers_fpuGuard (g : TrapsTo s Q) {k : Result} (h : Answers Q k) : Answers Q (fpuGuard s k) :=
  answers_ite (fun _ => answers_raise g _) fun _ => h

theorem answers_needPair {r : Nibble} {k : Result} (h : Answers Q k) : Answers Q (needPair r s k) :=
  answers_ite (fun _ => h) fun _ => answers_refused

theorem answers_onlyWhenPr (g : TrapsTo s Q) {pr : Bool} {k : Result} (h : Answers Q k) :
    Answers Q (onlyWhenPr pr s k) :=
  answers_ite (fun _ => h) fun _ => answers_raiseIllegal g

theorem answers_fpRead {r : Nibble} {k : Bool → QWord → Result} (h : ∀ dbl v, Answers Q (k dbl v)) :
    Answers Q (fpRead r k s) :=
  answers_ite (fun _ => answers_needPair (h _ _)) fun _ => h _ _

theorem answers_loadTwo (g : TrapsTo s Q) {a : QWord} {k : DWord → DWord → Result} (h : ∀ x y, Answers Q (k x y)) :
    Answers Q (loadTwo a s k) :=
  answers_ite (fun _ => answers_ite (fun _ => answers_load g fun _ _ => answers_load g fun _ _ => h _ _)
    fun _ => answers_raise g _) fun _ => answers_raise g _

theorem answers_storeTwo (g : TrapsTo s Q) {a : QWord} {x y : DWord} {k : State → Result}
    (h : s.Stores a 4 → s.Stores (a + 4#64) 4 →
      Answers Q (k ((s.writeMem a 4 x.toNat).writeMem (a + 4#64) 4 y.toNat))) : Answers Q (storeTwo a x y s k) := by
  unfold storeTwo
  refine answers_ite (fun h1 => answers_ite (fun h2 => h ?_ h2) fun _ => answers_raise g _) fun _ => answers_raise g _
  simp only [Bool.and_eq_true] at h1
  exact h1.2

end Sys2Proof.Machine
end

