-- ==== Sys2Proof/Laws/Shift.lean ====
section
/-!
SUPPORT. Sys2Proof/Laws/Shift.lean: what the barrel shift, the division step and the extensions of an operand are, as
integers and as bits.
-/
namespace Sys2Proof.Machine

/-! ## Extensions -/

/-- A zero-extended field is its value. -/
theorem zeroExt_toNat {w : Nat} (v : BitVec w) (h : w ≤ 64) : (zeroExt v).toNat = v.toNat := by
  rw [zeroExt, BitVec.toNat_setWidth]
  exact Nat.mod_eq_of_lt (Nat.lt_of_lt_of_le v.isLt (Nat.pow_le_pow_right (by decide) h))

/-- A zero-extended field narrower than a register is not negative. -/
theorem zeroExt_toInt {w : Nat} (v : BitVec w) (h : w < 64) : (zeroExt v).toInt = (v.toNat : Int) := by
  have h1 := Nat.lt_of_lt_of_le v.isLt (Nat.pow_le_pow_right (n := 2) (by decide) (show w ≤ 63 by omega))
  have h2 := zeroExt_toNat v (by omega)
  rw [BitVec.toInt_eq_toNat_cond, h2, if_pos (by omega)]

/-- A sign-extended field is its signed value. -/
theorem signExt_toInt {w : Nat} (v : BitVec w) (h : w ≤ 64) : (signExt v).toInt = v.toInt :=
  BitVec.toInt_signExtend_of_le h

/-- A field extended with ones is the field minus 2^w. -/
theorem onesExt_toInt {w : Nat} (v : BitVec w) (h : w < 64) : (onesExt v).toInt = (v.toNat : Int) - 2 ^ w := by
  have h2 : v.toNat < 2 ^ w := v.isLt
  have h3 : 2 ^ w ≤ 2 ^ 63 := Nat.pow_le_pow_right (by omega) (by omega)
  have h3' : (2 : Int) ^ w ≤ 2 ^ 63 := by exact_mod_cast h3
  have h4 : (v.toNat : Int) < 2 ^ w := by exact_mod_cast h2
  rw [onesExt, BitVec.toInt_ofInt]
  apply Int.bmod_eq_of_le <;> omega

/-- The bits of a field extended with ones. -/
theorem onesExt_bit {w : Nat} (v : BitVec w) {i : Nat} (hi : i < 64) :
    (onesExt v).getLsbD i = (decide (w ≤ i) || v.getLsbD i) := by
  have e : onesExt v = v.setWidth 64 ||| ~~~(BitVec.setWidth 64 (BitVec.allOnes w)) := by
    have h : onesExt v = v.setWidth 64 - BitVec.ofNat 64 (2 ^ w) := by
      apply BitVec.eq_of_toInt_eq
      rw [onesExt, BitVec.toInt_sub, BitVec.toInt_ofInt, BitVec.toInt_setWidth, BitVec.toInt_ofNat', Int.sub_bmod_bmod,
        Int.bmod_sub_bmod]
      simp
    have hd : v.setWidth 64 &&& ~~~(BitVec.setWidth 64 (BitVec.allOnes w)) = 0#64 := by
      ext j hj
      simp only [BitVec.getElem_and, BitVec.getElem_setWidth, BitVec.getElem_not, BitVec.getLsbD_allOnes,
        BitVec.getElem_zero]
      by_cases hw : j < w
      · simp [hw]
      · simp [BitVec.getLsbD_of_ge _ _ (Nat.le_of_not_lt hw)]
    have hn : ~~~(BitVec.setWidth 64 (BitVec.allOnes w)) = -BitVec.ofNat 64 (2 ^ w) := by
      rw [BitVec.neg_eq_not_add]
      apply BitVec.eq_of_getLsbD_eq
      intro j hj
      have : ~~~BitVec.ofNat 64 (2 ^ w) + 1#64 = ~~~(BitVec.ofNat 64 (2 ^ w) - 1#64) := by
        rw [BitVec.not_sub_eq_not_add]
      rw [this, BitVec.getLsbD_not, BitVec.getLsbD_not]
      congr 2
      by_cases hw : w < 64
      · have h1 : BitVec.ofNat 64 (2 ^ w) - 1#64 = BitVec.ofNat 64 (2 ^ w - 1) := by
          have := Nat.pow_pos (n := w) (show 0 < 2 by decide)
          have h2 : 2 ^ w < 2 ^ 64 := Nat.pow_lt_pow_right (by decide) hw
          apply BitVec.eq_of_toNat_eq
          simp [BitVec.toNat_sub]
          omega
        rw [h1, BitVec.getLsbD_ofNat, Nat.testBit_two_pow_sub_one, BitVec.getLsbD_setWidth, BitVec.getLsbD_allOnes]
      · have h1 : BitVec.ofNat 64 (2 ^ w) = 0#64 := by
          apply BitVec.eq_of_toNat_eq
          simp only [BitVec.toNat_ofNat, Nat.zero_mod]
          exact Nat.mod_eq_zero_of_dvd (Nat.pow_dvd_pow 2 (by omega))
        rw [h1, BitVec.getLsbD_setWidth, BitVec.getLsbD_allOnes]
        have : j < w := by omega
        have h2 : (0#64 - 1#64) = BitVec.allOnes 64 := by decide
        rw [h2, BitVec.getLsbD_allOnes]
        simp [this]
    rw [h, BitVec.sub_eq_add_neg, ← hn, ← BitVec.add_eq_or_of_and_eq_zero _ _ hd]
  rw [e]
  by_cases hw : i < w
  · have : ¬w ≤ i := by omega
    simp [hi, hw, this]
  · have : w ≤ i := by omega
    simp [hi, this]

/-! ## The low half of a register -/

/-- The low half read as a signed DWord. -/
theorem low32_toInt (a : QWord) : (a.setWidth 32).toInt = signedLow 32 a := lowW_toInt 32 a (by decide)

/-- A sign-extended DWord is its own low half. -/
theorem signedLow_of_range {x : QWord} (h : -2 ^ 31 ≤ x.toInt ∧ x.toInt < 2 ^ 31) : signedLow 32 x = x.toInt := by
  rw [signedLow]
  apply Int.bmod_eq_of_le <;> omega

/-! ## The barrel shift (42_int_shift.md R220) -/

/-- The three cases of a shift by a residue, for the arithmetic kind. -/
theorem shiftArith_toInt (x : QWord) (a : Int) (width : Nat) :
    BitVec.toInt (if 0 ≤ a then x <<< (a % width).toNat
      else if (a % width).toNat ≠ 0 then x.sshiftRight (width - (a % width).toNat)
      else if x.msb then BitVec.allOnes 64 else 0#64) = (shifted x.toInt a width).bmod (2 ^ 64) := by
  unfold shifted
  split
  · rw [BitVec.toInt_shiftLeft, Nat.shiftLeft_eq]
    apply bmod_congr
    push_cast
    rw [← sub_mul]
    refine Dvd.dvd.mul_right ?_ _
    have := low_dvd 64 x (by decide)
    rwa [Nat.mod_eq_of_lt x.isLt] at this
  · split
    · rw [BitVec.toInt_sshiftRight, Int.shiftRight_eq_div_pow]
      symm
      have h1 := x.le_toInt
      have h2 := x.toInt_lt
      have h3 : 0 < (2 : Int) ^ (width - (a % width).toNat) := by positivity
      push_cast
      generalize (2 : Int) ^ (width - (a % width).toNat) = d at *
      apply Int.bmod_eq_of_le
      · norm_num at *
        rw [Int.le_ediv_iff_mul_le h3]
        nlinarith
      · norm_num at *
        rw [Int.ediv_lt_iff_lt_mul h3]
        nlinarith
    · rw [BitVec.msb_eq_toInt]
      by_cases h : x.toInt < 0 <;> simp [h]

/-- The three cases of a shift by a residue, for the logical kind. -/
theorem shiftLogic_toInt (x : QWord) (a : Int) (width : Nat) :
    BitVec.toInt (if 0 ≤ a then x <<< (a % width).toNat
      else if (a % width).toNat ≠ 0 then x >>> (width - (a % width).toNat)
      else 0#64) = (shifted (x.toNat : Int) a width).bmod (2 ^ 64) := by
  unfold shifted
  rw [BitVec.toInt_eq_toNat_bmod]
  split
  · rw [BitVec.toNat_shiftLeft, Nat.shiftLeft_eq]
    apply bmod_congr
    push_cast
    generalize (x.toNat : Int) * 2 ^ (a % width).toNat = y
    exact ⟨-(y / 2 ^ 64), by omega⟩
  · split
    · simp [Nat.shiftRight_eq_div_pow]
    · have : ¬((x.toNat : Int) < 0) := by omega
      simp [this]

/-- SHAD: the shift of the source, or of its signed low half by the signed low half of the amount. -/
theorem barrelShift_arith_toInt (dq : Bool) (width0 : Nat) (src amt : QWord) :
    (barrelShift .arith dq width0 src amt).toInt =
      (if dq then shifted src.toInt amt.toInt 64
        else shifted (signedLow 32 src) (signedLow 32 amt) width0).bmod (2 ^ 64) := by
  cases dq
  · have h := shiftArith_toInt ((src.setWidth 32).signExtend 64) (amt.setWidth 32).toInt width0
    rw [BitVec.toInt_signExtend_of_le (by decide), low32_toInt, low32_toInt] at h
    rw [if_neg (by simp), ← h, ← low32_toInt amt]
    rfl
  · exact (shiftArith_toInt src amt.toInt 64).trans (by simp)

/-- SHLD: the shift of the source, or of its unsigned low half by the signed low half of the amount. -/
theorem barrelShift_logic_toInt (dq : Bool) (width0 : Nat) (src amt : QWord) :
    (barrelShift .logic dq width0 src amt).toInt =
      (if dq then shifted (src.toNat : Int) amt.toInt 64
        else shifted (unsignedLow 32 src : Int) (signedLow 32 amt) width0).bmod (2 ^ 64) := by
  cases dq
  · have h := shiftLogic_toInt ((src.setWidth 32).setWidth 64) (amt.setWidth 32).toInt width0
    have e : ((src.setWidth 32).setWidth 64).toNat = unsignedLow 32 src := by
      simp only [BitVec.toNat_setWidth, unsignedLow]
      omega
    rw [e, low32_toInt] at h
    rw [if_neg (by simp), ← h, ← low32_toInt amt]
    rfl
  · exact (shiftLogic_toInt src amt.toInt 64).trans (by simp)

/-- The negated amount of SHAR and SHLR, on 64 bits. -/
theorem negAmount_wide (amt : QWord) : (-amt).toInt = (-amt.toInt).bmod (2 ^ 64) := BitVec.toInt_neg

/-- The negated amount of SHAR and SHLR, on the low half. -/
theorem negAmount_low (amt : QWord) :
    signedLow 32 ((-(amt.setWidth 32)).setWidth 64) = (-amt.toInt).bmod (2 ^ 32) := by
  have e : ((-(amt.setWidth 32)).setWidth 64).setWidth 32 = -(amt.setWidth 32) := by
    apply BitVec.eq_of_toNat_eq
    simp only [BitVec.toNat_setWidth]
    omega
  rw [← low32_toInt, e, BitVec.toInt_neg, low32_toInt, signedLow]
  apply bmod_congr
  have := Int.dvd_self_sub_bmod (x := amt.toInt) (m := 2 ^ 32)
  convert this using 1
  ring

/-! ## The division step (40_int_arith_compare.md R155) -/

/-- The dividend's low half with T shifted in. -/
theorem shiftIn_toNat (a : DWord) (t : Bool) :
    ((a <<< 1) ||| BitVec.ofNat 32 t.toNat).toNat = (2 * a.toNat + t.toNat) % 2 ^ 32 := by
  have e : (a <<< 1) ||| BitVec.ofNat 32 t.toNat = (a <<< 1) + BitVec.ofNat 32 t.toNat := by
    refine (BitVec.add_eq_or_of_and_eq_zero _ _ ?_).symm
    apply BitVec.eq_of_getLsbD_eq
    intro i hi
    cases t
    · simp
    · by_cases h : i = 0
      · subst h; simp
      · simp [BitVec.getLsbD_one, h]
  rw [e]
  cases t <;> simp <;> omega

/-- What one step gives: the difference when Q = M and the sum otherwise, cut to 32 bits; Q from the bit shifted out, M
and the borrow or carry; T set exactly when the new Q equals M. -/
theorem divStep_spec (a b : DWord) (q m t : Bool) :
    let d : Int := ((2 * a.toNat + t.toNat) % 2 ^ 32 : Nat)
    let x : Int := if q = m then d - b.toNat else d + b.toNat
    (divStep a b q m t).result.toInt = x.bmod (2 ^ 32) ∧
      (divStep a b q m t).q = (a.getLsbD 31 ^^ m ^^ decide (x < 0 ∨ 2 ^ 32 ≤ x)) ∧
      (divStep a b q m t).t = ((divStep a b q m t).q == m) := by
  have e := shiftIn_toNat a t
  have hb := b.isLt
  have hd := ((a <<< 1) ||| BitVec.ofNat 32 t.toNat).isLt
  rw [← e]
  unfold divStep
  generalize (a <<< 1) ||| BitVec.ofNat 32 t.toNat = dn at *
  refine ⟨?_, ?_, ?_⟩
  · by_cases h : q = m
    · simp only [h, beq_self_eq_true, if_true]
      rw [BitVec.toInt_eq_toNat_bmod, BitVec.toNat_setWidth, BitVec.toNat_sub]
      simp only [BitVec.toNat_setWidth]
      apply bmod_congr
      omega
    · have h' : (q == m) = false := by simpa using h
      simp only [h', h, if_false, Bool.false_eq_true]
      rw [BitVec.toInt_eq_toNat_bmod, BitVec.toNat_setWidth, BitVec.toNat_add]
      simp only [BitVec.toNat_setWidth]
      apply bmod_congr
      omega
  · clear e
    by_cases h : q = m
    · simp only [h, beq_self_eq_true, if_true]
      congr 1
      rw [BitVec.getLsbD, Nat.testBit_eq_decide_div_mod_eq, BitVec.toNat_sub, BitVec.toNat_setWidth,
        BitVec.toNat_setWidth, decide_eq_decide]
      omega
    · have h' : (q == m) = false := by simpa using h
      simp only [h', h, if_false, Bool.false_eq_true]
      congr 1
      rw [BitVec.getLsbD, Nat.testBit_eq_decide_div_mod_eq, BitVec.toNat_add, BitVec.toNat_setWidth,
        BitVec.toNat_setWidth, decide_eq_decide]
      omega
  · have hx : ∀ x y : Bool, (!(x ^^ y)) = (x == y) := by decide
    exact hx _ _

end Sys2Proof.Machine
end

