-- ==== Sys2Proof/Laws/Runs.lean ====
section
/-!
SUPPORT. Sys2Proof/Laws/Runs.lean: when an instruction of a shape completes, said once for each shape over the terms of
Safety.lean: any instruction that ends by advancing, loads and stores, the transfers of control registers, LEA, the
branches, and the shapes of floating-point instruction.
-/
namespace Sys2Proof.Machine

/-! ## Any instruction that ends by advancing -/

/-- An instruction that answers an updated state, advanced. -/
theorem runs_next {l : Len} {i : Instr} {s u : State} {changed : List Part} {P : State → Prop}
    (he : exec i s = .next (u.retire l)) (hp : P (u.retire l)) (hk : s.KeepsBut u changed) (hpc : u.pc = s.pc)
    (hpe : u.pending = s.pending) : Runs l i s changed P :=
  ⟨_, he, hp, (hk.trans (keeps_retire u l)).mono (by simp), goesOn_retire l hpc hpe⟩

/-- What holds of the next state may be weakened, and the list of parts changed may grow. -/
theorem Runs.mono {l : Len} {i : Instr} {s : State} {a b : List Part} {P Q : State → Prop} (h : Runs l i s a P)
    (hs : a ⊆ b) (hq : ∀ t, P t → Q t) : Runs l i s b Q := by
  obtain ⟨t, he, hp, hk, hg⟩ := h
  exact ⟨t, he, hq t hp, hk.mono hs, hg⟩

/-! ## Loads and stores -/

/-- A loaded value sign-extended. -/
theorem loadSigned_toInt (z : Size) (v : Nat) : (loadSigned z v).toInt = (v : Int).bmod (2 ^ (8 * z.bytes)) := by
  cases z
  · exact (BitVec.toInt_signExtend_of_le (by decide)).trans (BitVec.toInt_ofNat' _)
  · exact (BitVec.toInt_signExtend_of_le (by decide)).trans (BitVec.toInt_ofNat' _)
  · exact (BitVec.toInt_signExtend_of_le (by decide)).trans (BitVec.toInt_ofNat' _)
  · exact BitVec.toInt_ofNat' _

/-- A loaded value zero-extended. -/
theorem loadUnsigned_toNat (z : Size) (v : Nat) (h : v < 256 ^ z.bytes) : (loadUnsigned z v).toNat = v := by
  have : 256 ^ z.bytes ≤ 2 ^ 64 := by cases z <;> decide
  simp only [loadUnsigned, BitVec.toNat_ofNat]
  exact Nat.mod_eq_of_lt (by omega)

/-- A load into a register: its value where nothing stops it, AddressError where `check` refuses the address. -/
theorem runsLoad_loadReg {l : Len} {i : Instr} {s : State} {z : Size} {ext : Size → Nat → QWord} {ea : QWord}
    {d : BitVec 5} {P : Nat → QWord → Prop} (he : exec i s = loadReg l z ext ea d s)
    (hl : l = .long → s.pending = none) (hp : ∀ v, v < 256 ^ z.bytes → P v (ext z v)) :
    RunsLoad l i s ea z.bytes [.reg d] fun v t => P v (t.reg d) :=
  ⟨fun v hv => runs_loadReg (P := P v) he hl hv (hp v (memRead_lt hv.2)),
    fun h => he.trans ((inForm_next hl).trans (load_raises h))⟩

/-- A store of a register. -/
theorem runsStore_storeReg {l : Len} {i : Instr} {s : State} {z : Size} {ea : QWord} {m : BitVec 5}
    (he : exec i s = storeReg l z ea m s) (hl : l = .long → s.pending = none) :
    RunsStore l i s ea z.bytes (s.reg m).toNat [] fun _ => True :=
  ⟨fun h => (runs_storeReg he hl h).mono (by simp) fun _ ht => ⟨ht, trivial⟩,
    fun h => he.trans ((inForm_next hl).trans (store_raises h))⟩

/-- A load from `@Rm+`. -/
theorem runsLoad_inc {i : Instr} {s : State} {z : Size} {ext : Size → Nat → QWord} {m d : BitVec 5}
    {P : Nat → QWord → Prop} (he : exec i s = loadRegInc z ext m d s)
    (hp : ∀ v, v < 256 ^ z.bytes → P v (ext z v)) :
    RunsLoad .short i s (s.reg m) z.bytes [.reg m, .reg d] fun v t =>
      P v (t.reg d) ∧ (m ≠ d → t.reg m = s.reg m + z.scale) := by
  refine ⟨fun v hv => runs_next (he.trans (load_next hv)) ⟨?_, fun hne => ?_⟩ ?_ rfl rfl,
    fun h => he.trans (load_raises h)⟩
  · simpa using hp v (memRead_lt hv.2)
  · simp [State.reg_setReg_ne _ hne]
  · exact ((keeps_setReg s m _).trans (keeps_setReg _ d _)).mono (by simp)

/-- A store to `@-Rn`. -/
theorem runsStore_dec {i : Instr} {s : State} {n : BitVec 5} {bytes : Nat} {v : QWord}
    (he : exec i s = storeDec n bytes v s) :
    RunsStore .short i s (s.reg n - BitVec.ofNat 64 bytes) bytes v.toNat [.reg n] fun t =>
      t.reg n = s.reg n - BitVec.ofNat 64 bytes := by
  refine ⟨fun h => runs_next (he.trans (store_next h)) ⟨?_, ?_⟩ ?_ rfl rfl, fun h => he.trans (store_raises h)⟩
  · exact (holds_writeMem s _ bytes _).of_mem (by simp) (by simp)
  · simp
  · exact ((keeps_writeMem s _ bytes _).trans (keeps_setReg _ n _)).mono (by simp)

/-- CAS.L when its write is allowed, or is checked only once the compare succeeds: the read, then the compare. -/
theorem execCasL_swap {s : State} (h : s.launch.casCheck = .whenEqual ∨ s.accessOk .write (s.reg 0#5) 4 = true) :
    execCasL s = load (s.reg 0#5) 4 s fun old =>
      if BitVec.ofNat 32 old = lowDword (s.reg 5#5) then
        store (s.reg 0#5) 4 (s.reg 4#5).toNat s fun t =>
          .next (((t.setT true).setReg 4#5 (loadSigned .l old)).retire .short)
      else .next (((s.setT false).setReg 4#5 (loadSigned .l old)).retire .short) :=
  if_neg <| by rcases h with h | h <;> simp [h]

/-- CAS.L where the read is refused, and where both accesses are checked and the write is refused. -/
theorem execCasL_refused {s : State} :
    (s.accessOk .read (s.reg 0#5) 4 = false → execCasL s = raise (.addressError (s.reg 0#5) .read) s) ∧
    (s.launch.casCheck = .always → s.accessOk .read (s.reg 0#5) 4 = true → s.accessOk .write (s.reg 0#5) 4 = false →
      execCasL s = raise (.addressError (s.reg 0#5) .write) s) :=
  ⟨fun h => by simp [execCasL, load, h], fun h hr hw => if_pos ⟨h, hr, hw⟩⟩

/-- A store of a value that differs above the bytes stored is the same store. -/
theorem State.Holds.congr {t : State} {a : QWord} {n v w : Nat} (h : t.Holds a n v) (e : v % 256 ^ n = w % 256 ^ n) :
    t.Holds a n w := by
  intro k hk
  rw [h k hk]
  congr 1
  apply BitVec.eq_of_toNat_eq
  simp only [BitVec.toNat_ofNat]
  have hd : 256 ^ (k + 1) ∣ 256 ^ n := Nat.pow_dvd_pow 256 hk
  have h1 : v % 256 ^ (k + 1) = w % 256 ^ (k + 1) := by
    rw [← Nat.mod_mod_of_dvd v hd, e, Nat.mod_mod_of_dvd w hd]
  have h2 : ∀ x : Nat, x / 256 ^ k % 2 ^ 8 = x % 256 ^ (k + 1) / 256 ^ k := by
    intro x
    rw [Nat.pow_succ 256 k, Nat.mod_mul_right_div_self]
    rfl
  rw [h2, h2, h1]

/-! ## Control registers -/

/-- A load of a control register from `@Rm+`. -/
theorem runsLoad_sys {i : Instr} {s : State} {m : BitVec 5} {write : DWord → State → State} {p : List Part}
    {P : Nat → State → Prop} (he : exec i s = loadSys m write s)
    (hk : ∀ (v : DWord) (t : State), t.KeepsBut (write v t) p) (hpc : ∀ v t, (write v t).pc = t.pc)
    (hpe : ∀ v t, (write v t).pending = t.pending)
    (hp : ∀ v, v < 2 ^ 32 → P v ((write (BitVec.ofNat 32 v) (s.setReg m (s.reg m + 4#64))).retire .short)) :
    RunsLoad .short i s (s.reg m) 4 (.reg m :: p) P :=
  ⟨fun v hv => runs_next (he.trans (load_next hv)) (hp v (by simpa using memRead_lt hv.2))
      (((keeps_setReg s m _).trans (hk _ _)).mono (by simp)) (hpc _ _) (hpe _ _),
    fun h => he.trans (load_raises h)⟩

/-- A checked load of SR or FPSCR from `@Rm+`. -/
theorem runs_sysChecked {i : Instr} {s : State} {m : BitVec 5} {bad : DWord → Bool} {why : Refusal}
    {write : DWord → State → State} {p : List Part} {P : State → Prop} {v : Nat}
    (he : exec i s = loadSysChecked m bad why write s) (hv : s.Loads (s.reg m) 4 v)
    (hb : bad (BitVec.ofNat 32 v) = false) (hk : ∀ (v : DWord) (t : State), t.KeepsBut (write v t) p)
    (hpc : ∀ v t, (write v t).pc = t.pc) (hpe : ∀ v t, (write v t).pending = t.pending)
    (hp : P ((write (BitVec.ofNat 32 v) (s.setReg m (s.reg m + 4#64))).retire .short)) :
    Runs .short i s (.reg m :: p) P := by
  refine runs_next (he.trans ((load_next hv).trans ?_)) hp
    (((keeps_setReg s m _).trans (hk (BitVec.ofNat 32 v) _)).mono (by simp)) (hpc _ _) (hpe _ _)
  rw [if_neg (by simp [hb])]
  rfl

/-- A checked load that is refused. -/
theorem sysChecked_refused {s : State} {m : BitVec 5} {bad : DWord → Bool} {why : Refusal}
    {write : DWord → State → State} {v : Nat} (hv : s.Loads (s.reg m) 4 v) (hb : bad (BitVec.ofNat 32 v) = true) :
    loadSysChecked m bad why write s = .refused why :=
  (load_next hv).trans (if_pos hb)

/-! ## LEA -/

/-- LEA with an index register other than R0 and R15. -/
theorem runs_leaIndex {l : Len} {i : Instr} {s : State} {z : Size} {m o d : BitVec 5} {disp : QWord} {P : QWord → Prop}
    (he : exec i s = leaIndex l z m o disp d s) (hl : l = .long → s.pending = none) (h0 : o ≠ 0#5) (h15 : o ≠ 15#5)
    (hp : P (s.reg m + (s.reg o + disp) * z.scale)) : Runs l i s [.reg d] fun t => P (t.reg d) := by
  refine runs_next (he.trans ((inForm_next hl).trans (if_neg (by simp [h0, h15])))) ?_ (keeps_setReg s d _) rfl rfl
  simpa using hp

/-- LEA with R0 or R15 as index register leaves a free value. -/
theorem runs_leaFree {l : Len} {i : Instr} {s : State} {z : Size} {m o d : BitVec 5} {disp : QWord}
    (he : exec i s = leaIndex l z m o disp d s) (hl : l = .long → s.pending = none) (ho : o = 0#5 ∨ o = 15#5) :
    Runs l i s [.reg d, .freeIndex] fun t =>
      t.reg d = Config.freeValue s.freeIndex ∧ t.freeIndex = s.freeIndex + 1 := by
  refine runs_next (he.trans ((inForm_next hl).trans (if_pos ho))) ⟨?_, ?_⟩
    (((keeps_drawn s).trans (keeps_setReg _ d _)).mono (by simp)) rfl rfl
  · simp [State.freeNow]
  · simp [State.drawn]

/-! ## Branches -/

/-- A branch with no delay slot. -/
theorem jumps_of {i : Instr} {s u : State} {changed : List Part} {P : State → Prop} {T : QWord → Prop}
    (he : s.pending = none → exec i s = .next u) (ht : T u.pc) (hpe : s.pending = none → u.pending = none) (hp : P u)
    (hk : s.KeepsBut u changed) : Jumps i s changed P T :=
  fun h => ⟨u, he h, ht, hpe h, hp, hk⟩

/-- A delayed branch. -/
theorem delays_of {l : Len} {i : Instr} {s u : State} {target : QWord} {changed : List Part} {P : State → Prop}
    {T : QWord → Prop} (he : s.pending = none → exec i s = .next (u.delayed l target)) (ht : T target)
    (hpc : u.pc = s.pc) (hp : P (u.delayed l target)) (hk : s.KeepsBut u changed) : Delays l i s changed P T :=
  fun h => ⟨_, target, he h, ht, by simp [State.delayed, hpc], by simp [State.delayed, hpc], hp,
    (hk.trans (keeps_delayed u l target)).mono (by simp)⟩

/-- The target of a label is the PC operand plus the scaled label, modulo 2^64. -/
theorem labelTarget_toInt {w : Nat} (s : State) (l : Len) (label : BitVec w) (h : w ≤ 64) :
    (s.labelTarget l label).toInt = (s.pc.toInt + (l.bytes + 2 : Nat) + 2 * label.toInt).bmod (2 ^ 64) := by
  rw [State.labelTarget, State.pcOperand, BitVec.toInt_add, BitVec.toInt_add, BitVec.toInt_mul, BitVec.toInt_ofNat',
    BitVec.toInt_ofNat', signExt_toInt label h]
  simp only [Config.labelScale, Int.add_bmod_bmod, Int.bmod_add_bmod]
  cases l <;> rfl

/-! ## Floating point -/

/-- A Single or Double result completes. -/
theorem fpWrite_single {n : Nibble} {v : Bool → QWord} {s : State} (h : s.fpPr = false) :
    fpWrite n v s = .next ((s.setFrReg n (lowDword (v false))).retire .short) := by
  simp [fpWrite, h]

theorem fpWrite_double {n : Nibble} {v : Bool → QWord} {s : State} (h : s.fpPr = true) (hn : s.pairOk n = true) :
    fpWrite n v s = .next ((s.setPair n (v true)).retire .short) := by
  simp [fpWrite, h, needPair, hn]

/-- A Single or Double operand. -/
theorem fpRead_single {r : Nibble} {k : Bool → QWord → Result} {s : State} (h : s.fpPr = false) :
    fpRead r k s = k false (zeroExt (s.frReg r)) := by
  simp [fpRead, h]

theorem fpRead_double {r : Nibble} {k : Bool → QWord → Result} {s : State} (h : s.fpPr = true)
    (hr : s.pairOk r = true) : fpRead r k s = k true (s.pair r) := by
  simp [fpRead, h, needPair, hr]

/-- The two reads of an FMOV load. -/
theorem loadTwo_next {ea : QWord} {s : State} {k : DWord → DWord → Result} {a b : Nat}
    (h : s.accessOk .read ea 8 = true) (ha : s.Loads ea 4 a) (hb : s.Loads (ea + 4#64) 4 b) :
    loadTwo ea s k = k (BitVec.ofNat 32 a) (BitVec.ofNat 32 b) := by
  simp [loadTwo, h, ha.1, hb.1, load_next ha, load_next hb]

/-- Where a check of an FMOV load's two reads refuses, AddressError is raised before either. -/
theorem loadTwo_raises {ea : QWord} {s : State} {k : DWord → DWord → Result} :
    (s.accessOk .read ea 8 = false ∨ s.accessOk .read ea 4 = false →
      loadTwo ea s k = raise (.addressError ea .read) s) ∧
    (s.accessOk .read ea 8 = true → s.accessOk .read ea 4 = true → s.accessOk .read (ea + 4#64) 4 = false →
      loadTwo ea s k = raise (.addressError (ea + 4#64) .read) s) :=
  ⟨by rintro (h | h) <;> simp [loadTwo, h], fun h8 h4 h => by simp [loadTwo, h8, h4, h]⟩

/-- The two writes of an FMOV store. -/
theorem storeTwo_next {ea : QWord} {a b : DWord} {s : State} {k : State → Result} (h8 : s.Stores ea 8)
    (h4 : s.Stores ea 4) (hb : s.Stores (ea + 4#64) 4) :
    storeTwo ea a b s k = k ((s.writeMem ea 4 a.toNat).writeMem (ea + 4#64) 4 b.toNat) := by
  have e8 : s.accessOk .write ea 8 = true := h8
  have e4 : s.accessOk .write ea 4 = true := h4
  have eb : s.accessOk .write (ea + 4#64) 4 = true := hb
  simp [storeTwo, e8, e4, eb]

end Sys2Proof.Machine
end

