-- ==== Sys2Proof/Tests/Slice0.lean ====
section
/-!
SUPPORT. Sys2Proof/Tests/Slice0.lean: what WellFormed refuses; for every constructor, a word written out from the
source fields of its row in spec/opcode_table.json (every field at a value of its own) and the instruction it stands for;
how the host places an instruction; states and operands that meet the hypotheses of the statements; and steps whose
result the spec's tables 95_test_vectors.md and 96_test_vectors_mem_sys_fpu.md state.
-/
namespace Sys2Proof.Tests

open Sys2Proof Sys2Proof.Machine

-- The theorems of this file are checked one after another: elaborated side by side, each waiting on the same facts of
-- the step, they ask for more threads than the sandbox's memory limit admits.
set_option Elab.async false

noncomputable section

/-! ## States of the tests -/

/-- Right after reset, at 0x1000. -/
def start : State := { State.reset with pc := 0x1000#64 }

/-- The words placed at PC and stepped once: whether the next state passes the check. -/
def after (words : List Word) (s : State) (check : State → Bool) : Bool :=
  match step { s with mem := placeBytes s.launch s.mem s.pc (wordsBytes words) } with
  | .next t => check t
  | _ => false

/-- Whether the instruction answers a next state that passes the check. -/
def answersNext (i : Instr) (s : State) (check : State → Bool) : Bool :=
  match exec i s with
  | .next t => check t
  | _ => false

/-- In a delay slot. -/
def inDelaySlot : State := { start with pending := some ⟨0x3000#64, 0xFFE#64⟩ }

/-- Sixteen bytes of memory from 0x2000 on, which R1 points to; R3 points to the last four bytes of the address space. -/
def withData : State :=
  (({ start with mem := memWrite [] 0x2000 16 0x8F7E6D5C4B3A29180706050403028180 }).setReg 1#5 0x2000#64).setReg 3#5
    0xFFFFFFFFFFFFFFFC#64

/-- R1 and R15 past the top of the address space less 4, where no access fits. -/
def atTop : State := (withData.setReg 1#5 0xFFFFFFFFFFFFFFFF#64).setReg 15#5 0xFFFFFFFFFFFFFFFD#64

/-- FPSCR.PR = 1, in the Normal profile. -/
def doubles : State := { start with fpscr := 0x80000#32 }

/-- FPSCR.SZ = 1, in the Normal profile, with data. -/
def pairs : State := { withData with fpscr := 0x100000#32 }

/-! ## What the checks of WellFormed refuse -/

theorem test_nop_imm_0_ill_formed : (Instr.nopImm 0#4).wellFormed = false := by decide
theorem test_nop_imm_15_ill_formed : (Instr.nopImm 15#4).wellFormed = false := by decide
theorem test_nop_imm_bounds_well_formed :
    (Instr.nopImm 1#4).wellFormed = true ∧ (Instr.nopImm 14#4).wellFormed = true := by decide

/-! ## Encodings that no row lists -/

theorem test_nop_imm_15_word_refused : decode (wordsBytes [0x0F09#16]) = .rejected (.unlisted16 0x0F09#16) := by
  decide +kernel
/-- 30_encoding.md R114: a reserved bit of the prefix is set (the o bit of a two-register form). -/
theorem test_reserved_bit_refused :
    decode (wordsBytes [0xCE1C#16, 0x312F#16]) = .rejected (.unlisted32 0xCE1C#16 0x312F#16) := by decide +kernel
theorem test_truncated_prefix_refused : decode [0x00#8, 0x8E#8, 0x12#8] = .rejected .truncated := by decide +kernel

/-! ## How the host places an instruction -/

theorem test_host_word_16 : decodeTableWord 16 0x312C = some (.addRmRn 0x2#4 0x1#4) := by decide +kernel
theorem test_host_word_32 : decodeTableWord 32 0xCEEC341F = some (.addRmRnCe true 0x11#5 0x14#5) := by decide +kernel
theorem test_host_step_16 : (match step (State.reset.withFetchWord 16 0xE17F) with
    | .next t => t.reg 1#5 == 0x7F#64 && t.pc == 2#64
    | _ => false) = true := by decide +kernel
theorem test_host_step_32 : (match step (State.reset.withFetchWord 32 0x8E12E134) with
    | .next t => t.reg 1#5 == 0x1234#64 && t.pc == 4#64
    | _ => false) = true := by decide +kernel
/-- From reset, with nothing placed, the first fetch finds no value (log 5). -/
theorem test_nothing_placed : (match step State.reset with
    | .fault (.unwritten a) => a == 0#64
    | _ => false) = true := by decide +kernel

/-! ## The hypotheses of the statements are met -/

theorem test_meets_DecodeReadsEncoding :
    (Instr.nopImm 14#4).wellFormed = true ∧ (Instr.addRmRoRn true 31#5 16#5 15#5).wellFormed = true := by decide

theorem test_meets_EncodingReadsDecode :
    decode [0x2C#8, 0x31#8, 0x09#8] = .instr (.addRmRn 0x2#4 0x1#4) [0x09#8] ∧
      decode [0xEC#8, 0xCE#8, 0x1F#8, 0x34#8] = .instr (.addRmRnCe true 0x11#5 0x14#5) [] := by decide +kernel

/-- ADD R17, R20 at PC. -/
def atAdd : State := { start with mem := placeBytes Launch.default [] 0x1000#64 [0xEC#8, 0xCE#8, 0x1F#8, 0x34#8] }

theorem test_meets_StepRunsDecodedInstruction :
    (Instr.addRmRnCe true 0x11#5 0x14#5).wellFormed = true ∧ atAdd.runEnded = false ∧ atAdd.sleeping = false ∧
      jqOf atAdd.sr = true ∧ atAdd.fetchOk atAdd.pc = true ∧ atAdd.fetchOk (atAdd.pc + 2#64) = true ∧
      ∀ k < (encodeBytes (Instr.addRmRnCe true 0x11#5 0x14#5)).length,
        memGet atAdd.mem (atAdd.launch.locate (atAdd.pc + BitVec.ofNat 64 k)) =
          (encodeBytes (Instr.addRmRnCe true 0x11#5 0x14#5))[k]? := by decide +kernel

/-- A state that runs meets each clause: a first word that cannot be fetched (an odd PC), one that stands alone, a prefix
whose second word cannot be fetched (memory ends after it), and one whose second word can. -/
theorem test_meets_FetchFollowsTheFirstWord :
    start.runEnded = false ∧ start.sleeping = false ∧ jqOf start.sr = true ∧
      { start with pc := 0x1001#64 }.fetchOk 0x1001#64 = false ∧
      (let s := { start with mem := placeBytes Launch.default [] 0x1000#64 [0x2C#8, 0x31#8] };
        s.fetchOk s.pc = true ∧ memRead s.mem (s.launch.locate s.pc) 2 = some (0x312C#16).toNat ∧
          (0x312C#16).extractLsb' 8 8 ≠ 0x8E#8 ∧ (0x312C#16).extractLsb' 8 8 ≠ 0xCE#8) ∧
      (let s := { atAdd with launch := { Launch.default with memMap := [⟨0x1000, 2, true⟩] } };
        s.fetchOk s.pc = true ∧ memRead s.mem (s.launch.locate s.pc) 2 = some (0xCEEC#16).toNat ∧
          (0xCEEC#16).extractLsb' 8 8 = 0xCE#8 ∧ s.fetchOk (s.pc + 2#64) = false) ∧
      atAdd.fetchOk (atAdd.pc + 2#64) = true ∧
      memRead atAdd.mem (atAdd.launch.locate (atAdd.pc + 2#64)) 2 = some (0x341F#16).toNat := by decide +kernel

theorem test_meets_UnlistedEncodingRaises : start.pending = none ∧ inDelaySlot.pending ≠ none := by decide

theorem test_meets_StepKeepsInvariant :
    (atAdd.launch.wf = true ∧ memWf atAdd.mem = true ∧ jqOf atAdd.sr = true ∧
      fpscrBad atAdd.launch atAdd.fpscr = false) ∧
      after [0xCEEC#16, 0x341F#16] atAdd (fun t => t.pc == 0x1004#64) = true := by decide +kernel

/-- A step that adds a record and one that adds none. -/
theorem test_meets_StepKeepsLaunchAndRecords :
    after [0x312C#16] start (fun t => t.records.length == 0) = true ∧
      after [0xC320#16] start (fun t => t.records.length == 1) = true := by decide +kernel

theorem test_meets_EndedRunTakesNoStep :
    { start with runEnded := true }.runEnded = true ∧
      ({ start with sleeping := true }.runEnded = false ∧ { start with sleeping := true }.sleeping = true) ∧
      (let s := { start with sr := 0#32 };
        s.runEnded = false ∧ s.sleeping = false ∧ jqOf s.sr = false) := by decide

/-- Each clause: a cause in a delay slot and in none, a trap, and TRAP_ENTRY = fault. -/
theorem test_meets_TrapEntrySavesAndVectors :
    Cause.addressError 0x1001#64 .fetch ≠ .breakpoint ∧ (Cause.illegalInstruction ≠ .breakpoint ∧ ∀ k, Cause.illegalInstruction ≠ .trap k) ∧
      start.launch.trapEntry = .vector ∧ start.pending = none ∧
      inDelaySlot.launch.trapEntry = .vector ∧ inDelaySlot.pending = some ⟨0x3000#64, 0xFFE#64⟩ ∧
      Cause.trap 0x20#8 ≠ .breakpoint ∧
      { start with launch := { Launch.default with trapEntry := .fault } }.launch.trapEntry = .fault := by
  refine ⟨by decide, ⟨by decide, fun k => nofun⟩, ?_⟩
  decide

theorem test_meets_DelaySlotRefusesForms :
    inDelaySlot.pending ≠ none ∧ (encode (Instr.ldif16 0x3F80#16)).length = 2 := by decide +kernel

/-- FPU_PROFILE None under both values of FPSCR.PR, in no delay slot. -/
theorem test_meets_NoFpuMeansFpuDisabled :
    let s := { start with launch := { Launch.default with fpuProfile := .none } }
    s.launch.fpuProfile = .none ∧ s.fpPr = false ∧ s.pending = none ∧
      { s with fpscr := 0x80000#32 }.fpPr = true := by decide

theorem test_meets_OnlyListedInstructionsWriteT :
    start.launch.wf = true ∧ (Instr.addRmRn 2#4 1#4).writesT = false ∧
      answersNext (.addRmRn 2#4 1#4) start (fun _ => true) = true := by decide +kernel

/-- Each clause: an instruction that may write S (SETS), one that may write Q and M (DIV0S), and one that may not. -/
theorem test_meets_OnlyListedInstructionsWriteMode :
    start.launch.wf = true ∧ (Instr.sett).writesSr = false ∧ Instr.sett ≠ .sets ∧ Instr.sett ≠ .clrs ∧
      Instr.sett ≠ .div0s ∧ Instr.sett ≠ .div0u ∧ Instr.sett ≠ .div1 ∧
      answersNext .sett start (fun t => t.flagT) = true ∧
      (Instr.sets).writesSr = false ∧ answersNext .sets start (fun t => t.flagS) = true := by decide +kernel

theorem test_meets_OnlyBankMovesWriteTheBank :
    (∀ m b, Instr.nop ≠ .ldcRmBank m b) ∧ (∀ m b, Instr.nop ≠ .ldcLIncRmBank m b) ∧
      answersNext .nop start (fun t => t.records == start.records) = true :=
  ⟨fun _ _ => nofun, fun _ _ => nofun, by decide +kernel⟩

/-- Stores of every size that nothing stops, the last one up to the top of the address space; one that does not fit; and
loads. -/
theorem test_meets_MemoryReadsBackWrites :
    withData.accessOk .write 0x2000#64 1 = true ∧ withData.accessOk .write 0x2001#64 2 = true ∧
      withData.accessOk .write 0xFFFFFFFFFFFFFFFC#64 4 = true ∧ withData.accessOk .write 0xFFFFFFFFFFFFFFF8#64 8 = true ∧
      withData.accessOk .write 0xFFFFFFFFFFFFFFFC#64 8 = false ∧ withData.accessOk .read 0x2008#64 8 = true ∧
      (∀ i < 8, (memGet withData.mem (0x2008 + i)).isSome = true) ∧
      withData.accessOk .read 0xFFFFFFFFFFFFFFFD#64 4 = false := by decide +kernel

theorem test_meets_AccessCheckRule :
    (8, start.launch.alignQ) ∈ [(1, start.launch.alignB), (2, start.launch.alignW), (4, start.launch.alignL),
        (8, start.launch.alignQ)] ∧
      withData.accessOk .read 0x200C#64 8 = true ∧ (∃ i < 8, memGet withData.mem (0x200C + i) = none) ∧
      start.launch.vaBits = 64 ∧ { Launch.default with vaBits := 32 }.vaBits ≤ 64 := by
  decide +kernel

/-- 20_memory.md R60: with VA_BITS = 32 the upper half of an address names nothing. -/
theorem test_va_bits_32 :
    { Launch.default with vaBits := 32 }.locate 0x100002000#64 = 0x2000 ∧
      { start with launch := { Launch.default with vaBits := 32 } }.accessOk .read 0x1FFFFFFFE#64 4 = false := by
  decide +kernel

/-- OPW_RULE is rule R7: the clause of AddSubNegMulRun on the width. -/
theorem test_meets_AddSubNegMulRun :
    start.launch.opwRule = .r7 ∧ start.width false = 32 ∧ start.width true = 64 := by decide

theorem test_meets_MemoryStaysCanonical :
    memWf withData.mem = true ∧ 0x2000 + 16 ≤ 2 ^ 64 ∧ (2 ^ 64 - 8) + 8 ≤ 2 ^ 64 := by decide +kernel

theorem test_meets_EffectiveAddresses :
    (1#5 : BitVec 5) ≠ 0#5 ∧ (1#5 : BitVec 5) ≠ 15#5 ∧ (31#5 : BitVec 5) ≠ 0#5 ∧ (31#5 : BitVec 5) ≠ 15#5 := by decide

/-- In no delay slot: the one hypothesis of AddSubNegMulRun, CarryAndOverflowRun, MultipliesIntoMacRun, MovesAndSelectsRun,
LoadImmediateAndMovtRun, ComparesRun, BitwiseAndTestsRun, ExtensionsAndSwapsRun, FixedShiftsRun, BarrelShiftsRun,
BranchesWithoutSlotRun and TrapBreakSleepAndTlb. -/
theorem test_meets_in_no_slot : start.pending = none ∧ start.launch.trapEntry = .vector := by decide

/-- T set and T clear, for the conditional branches and CSELT. -/
theorem test_meets_BranchesWithoutSlotRun :
    start.pending = none ∧ start.flagT = false ∧ (start.setT true).pending = none ∧ (start.setT true).flagT = true := by
  decide

/-- With Ro neither R0 nor R15, with R0 and with R15. -/
theorem test_meets_AddressCalculationsRun :
    start.pending = none ∧ ((1#4 : BitVec 4) ≠ 0#4 ∧ (1#4 : BitVec 4) ≠ 15#4) ∧
      ((0#4 : BitVec 4) = 0#4 ∨ (0#4 : BitVec 4) = 15#4) ∧ ((15#4 : BitVec 4) = 0#4 ∨ (15#4 : BitVec 4) = 15#4) := by
  decide

theorem test_meets_LoadsOfBytesAndWordsRun :
    withData.pending = none ∧ withData.Loads (withData.eaR0 (lo 1#4)) 1 0x80 ∧ withData.Loads (withData.reg (lo 1#4)) 2 0x8180 ∧
      withData.Loads (withData.eaIndex .w (lo 1#4) (lo 2#4) (zeroExt 7#4)) 2 0x8F7E ∧
      atTop.accessOk .read (atTop.reg (lo 1#4)) 2 = false :=
  ⟨by decide, ⟨by decide +kernel, by decide +kernel⟩, ⟨by decide +kernel, by decide +kernel⟩,
    ⟨by decide +kernel, by decide +kernel⟩, by decide +kernel⟩

theorem test_meets_LoadsOfDwordsAndQwordsRun :
    withData.pending = none ∧ withData.Loads (withData.eaDisp .l (lo 1#4) (zeroExt 3#4)) 4 0x8F7E6D5C ∧
      withData.Loads (withData.reg (lo 1#4)) 8 0x0706050403028180 ∧
      withData.accessOk .read (withData.reg (lo 3#4)) 8 = false :=
  ⟨by decide, ⟨by decide +kernel, by decide +kernel⟩, ⟨by decide +kernel, by decide +kernel⟩, by decide +kernel⟩

theorem test_meets_LoadsWithIncrementRun :
    withData.Loads (withData.reg (lo 1#4)) 1 0x80 ∧ withData.Loads (withData.reg (lo 1#4)) 8 0x0706050403028180 ∧
      lo 1#4 ≠ lo 2#4 ∧ (withData.setReg 15#5 0x2008#64).Loads ((withData.setReg 15#5 0x2008#64).reg 15#5) 8 0x8F7E6D5C4B3A2918 ∧
      withData.accessOk .read (withData.reg (lo 3#4)) 8 = false ∧ atTop.accessOk .read (atTop.reg 15#5) 8 = false :=
  ⟨⟨by decide +kernel, by decide +kernel⟩, ⟨by decide +kernel, by decide +kernel⟩, by decide,
    ⟨by decide +kernel, by decide +kernel⟩, by decide +kernel, by decide +kernel⟩

theorem test_meets_StoresRun :
    withData.pending = none ∧ withData.Stores (withData.eaR0 (lo 1#4)) 1 ∧ withData.Stores (withData.reg (lo 3#4)) 4 ∧
      withData.accessOk .write (withData.reg (lo 3#4)) 8 = false ∧ atTop.accessOk .write (atTop.reg (lo 1#4)) 2 = false :=
  ⟨by decide, show _ = _ by decide +kernel, show _ = _ by decide +kernel, by decide +kernel, by decide +kernel⟩

theorem test_meets_StoresWithDecrementRun :
    withData.Stores (withData.reg (lo 1#4) - 8#64) 8 ∧ start.Stores (start.reg 15#5 - 8#64) 8 ∧
      start.Stores (start.reg (lo 1#4) - 1#64) 1 ∧
      (start.setReg 1#5 1#64).accessOk .write ((start.setReg 1#5 1#64).reg (lo 1#4) - 2#64) 2 = false :=
  ⟨show _ = _ by decide +kernel, show _ = _ by decide +kernel, show _ = _ by decide +kernel, by decide +kernel⟩

/-- Each clause: a refused address, values that differ, equal values that may be stored, and equal values that may not. -/
theorem test_meets_CompareAndSwapRuns :
    (withData.setReg 0#5 0xFFFFFFFFFFFFFFFD#64).accessOk .read 0xFFFFFFFFFFFFFFFD#64 4 = false ∧
      (let s := withData.setReg 0#5 0x2000#64;
        s.Loads (s.reg 0#5) 4 0x03028180 ∧ ((0x03028180 : Nat) : Int).bmod (2 ^ 32) ≠ signedLow 32 (s.reg 5#5) ∧
          s.launch.casCheck = .whenEqual ∧ s.accessOk .write (s.reg 0#5) 4 = true) ∧
      (let s := (withData.setReg 0#5 0x2000#64);
       let t := { s with launch := { Launch.default with casCheck := .always, memMap := [⟨0x2000, 16, false⟩] } };
        t.launch.casCheck = .always ∧ t.accessOk .read (t.reg 0#5) 4 = true ∧ t.accessOk .write (t.reg 0#5) 4 = false) ∧
      (let s := (withData.setReg 0#5 0x2000#64).setReg 5#5 0x03028180#64;
        s.Loads (s.reg 0#5) 4 0x03028180 ∧ ((0x03028180 : Nat) : Int).bmod (2 ^ 32) = signedLow 32 (s.reg 5#5) ∧
          s.Stores (s.reg 0#5) 4 ∧
          { s with launch := { Launch.default with memMap := [⟨0x2000, 16, false⟩] } }.accessOk .write (s.reg 0#5) 4 = false) :=
  ⟨by decide +kernel, ⟨⟨by decide +kernel, by decide +kernel⟩, by decide +kernel, by decide +kernel, by decide +kernel⟩,
    ⟨by decide +kernel, by decide +kernel, by decide +kernel⟩,
    ⟨⟨by decide +kernel, by decide +kernel⟩, by decide +kernel, show _ = _ by decide +kernel, by decide +kernel⟩⟩

/-- R433 against R260: a readable DWord that may not be written and does not compare equal raises the write error under
`always`, and gives T = 0 and the old value in R4 under `whenEqual`. -/
theorem test_casL_read_only :
    let run := fun c => exec .casL { withData.setReg 0#5 0x2000#64 with
      launch := { Launch.default with casCheck := c, memMap := [⟨0x2000, 16, false⟩] } }
    (match run .always with
      | .next t => t.records.map (·.cause) == [.addressError 0x2000#64 .write] && t.pc == t.vbr + 0x100#64
      | _ => false) = true ∧
    (match run .whenEqual with
      | .next t => t.reg 4#5 == 0x03028180#64 && !t.flagT && t.records == []
      | _ => false) = true := by decide +kernel

theorem test_meets_DelayedBranchesRun :
    start.pending = none ∧ start.flagT = false ∧ (start.setT true).flagT = true ∧
      start.launch.jmpJsrDelayed = true ∧
      { start with launch := { Launch.default with jmpJsrDelayed := false } }.launch.jmpJsrDelayed = false := by decide

theorem test_meets_ReturnFromExceptionRuns :
    jqOf start.ssr = false ∧ start.pending = none ∧ jqOf { start with ssr := 0x80000001#32 }.ssr = true := by decide

theorem test_meets_TrapThenReturnRestores :
    start.pending = none ∧ jqOf start.sr = true ∧ start.launch.trapEntry = .vector := by decide

theorem test_meets_SlotSeesTheBranch :
    start.pending = none ∧ start.launch.jmpJsrDelayed = true ∧
      withData.Loads (withData.reg (lo 1#4)) 8 0x0706050403028180 ∧ withData.Loads (withData.reg (lo 1#4)) 4 0x03028180 ∧
      withData.Loads (withData.reg (lo 1#4)) 2 0x8180 ∧ withData.Loads (withData.reg (lo 1#4)) 1 0x80 ∧
      withData.Stores (withData.reg (lo 1#4) - 8#64) 8 ∧ withData.Stores (withData.reg (lo 1#4) - 4#64) 4 ∧
      withData.Stores (withData.reg (lo 1#4) - 2#64) 2 ∧ withData.Stores (withData.reg (lo 1#4) - 1#64) 1 :=
  ⟨by decide, by decide, ⟨by decide +kernel, by decide +kernel⟩, ⟨by decide +kernel, by decide +kernel⟩,
    ⟨by decide +kernel, by decide +kernel⟩, ⟨by decide +kernel, by decide +kernel⟩, show _ = _ by decide +kernel,
    show _ = _ by decide +kernel, show _ = _ by decide +kernel, show _ = _ by decide +kernel⟩

theorem test_meets_FlagInstructionsRun :
    ((1#4 : BitVec 4) ≠ 0#4 ∧ (1#4 : BitVec 4) ≠ 15#4) ∧ (14#4 : BitVec 4) ≠ 0#4 ∧ (14#4 : BitVec 4) ≠ 15#4 := by decide

/-- LDC to SR accepted and refused, LDS to FPSCR accepted and refused, with an FPU. -/
theorem test_meets_ControlRegisterMovesRun :
    start.launch.fpuProfile ≠ .none ∧
      (let s := start.setReg 1#5 0x80000001#64;
        jqOf (lowDword (s.reg (lo 1#4)) &&& s.launch.srWriteMask) = true) ∧
      jqOf (lowDword (start.reg (lo 1#4)) &&& start.launch.srWriteMask) = false ∧
      fpscrBad start.launch (lowDword (start.reg (lo 1#4))) = false ∧
      (let s := start.setReg 1#5 0x200000#64;
        fpscrBad s.launch (lowDword (s.reg (lo 1#4))) = true) := by decide +kernel

theorem test_meets_LoadsOfControlRegistersFromMemoryRun :
    withData.launch.fpuProfile ≠ .none ∧
      withData.Loads (withData.reg (lo 1#4)) 4 0x03028180 ∧ atTop.accessOk .read (atTop.reg (lo 1#4)) 4 = false ∧
      jqOf (BitVec.ofNat 32 0x03028180 &&& withData.launch.srWriteMask) = false ∧
      (let s := withData.setReg 1#5 0x200C#64;
        s.Loads (s.reg (lo 1#4)) 4 0x8F7E6D5C ∧ jqOf (BitVec.ofNat 32 0x8F7E6D5C &&& s.launch.srWriteMask) = true ∧
          fpscrBad s.launch (BitVec.ofNat 32 0x8F7E6D5C) = true) ∧
      fpscrBad withData.launch (BitVec.ofNat 32 0x03028180) = false :=
  ⟨by decide, ⟨by decide +kernel, by decide +kernel⟩, by decide +kernel, by decide +kernel,
    ⟨⟨by decide +kernel, by decide +kernel⟩, by decide +kernel, by decide +kernel⟩, by decide +kernel⟩

theorem test_meets_StoresOfControlRegistersRun :
    withData.launch.fpuProfile ≠ .none ∧ withData.Stores (withData.reg (lo 1#4) - 4#64) 4 ∧
      (withData.setReg 1#5 2#64).accessOk .write ((withData.setReg 1#5 2#64).reg (lo 1#4) - 4#64) 4 = false :=
  ⟨by decide, show _ = _ by decide +kernel, by decide +kernel⟩

/-- PR = 0, PR = 1 with an even and an odd pair, with an FPU: the hypotheses of FloatArithmeticRuns and
HalfPrecisionRuns. -/
theorem test_meets_FloatArithmeticRuns :
    start.launch.fpuProfile ≠ .none ∧ start.fpPr = false ∧ start.fpSz = false ∧ start.pending = none ∧
      doubles.launch.fpuProfile ≠ .none ∧ doubles.fpPr = true ∧ doubles.pairOk 2#4 = true ∧ doubles.pairOk 3#4 = true ∧
      pairs.fpSz = true ∧ pairs.pairOk 2#4 = true := by decide +kernel

/-- PR = 0 and SZ = 0, PR = 1, SZ = 1, each with an FPU and a pair the profile has: the clauses of FloatMovesRun. -/
theorem test_meets_FloatMovesRun :
    start.launch.fpuProfile ≠ .none ∧ start.fpPr = false ∧ start.fpSz = false ∧
      doubles.launch.fpuProfile ≠ .none ∧ doubles.fpPr = true ∧ doubles.pairOk 2#4 = true ∧ doubles.pairOk 3#4 = true ∧
      pairs.launch.fpuProfile ≠ .none ∧ pairs.fpSz = true ∧ pairs.pairOk 2#4 = true ∧ pairs.pairOk 15#4 = true := by decide

/-- FTRC of 1.0, which has a result, and of an infinity, for which none is stated. -/
theorem test_meets_FloatComparesAndConversionsRun :
    start.launch.fpuProfile ≠ .none ∧ start.fpPr = false ∧ doubles.fpPr = true ∧ doubles.pairOk 2#4 = true ∧
      numToInt start.launch.fpNumerics false 0#2 0x3F800000#64 = some 1#32 ∧
      numToInt start.launch.fpNumerics false 0#2 0x7F800000#64 = none ∧
      numToInt start.launch.fpNumerics true 0#2 0x3FF0000000000000#64 = some 1#32 := by decide +kernel

/-- The last clause, a second half that is refused, with ALIGN_L = 8. -/
theorem test_meets_FloatLoadsRun :
    withData.launch.fpuProfile ≠ .none ∧ withData.fpSz = false ∧ withData.Loads (withData.reg (lo 1#4)) 4 0x03028180 ∧
      atTop.accessOk .read (atTop.reg (lo 1#4)) 4 = false ∧
      pairs.fpSz = true ∧ pairs.pairOk 2#4 = true ∧ pairs.accessOk .read (pairs.reg (lo 1#4)) 8 = true ∧
      pairs.Loads (pairs.reg (lo 1#4)) 4 0x03028180 ∧ pairs.Loads (pairs.reg (lo 1#4) + 4#64) 4 0x07060504 ∧
      pairs.accessOk .read (pairs.reg (lo 3#4)) 8 = false ∧
      (let s := { pairs with launch := { Launch.default with alignL := 8 } };
        s.accessOk .read (s.reg (lo 1#4)) 8 = true ∧ s.accessOk .read (s.reg (lo 1#4)) 4 = true ∧
          s.accessOk .read (s.reg (lo 1#4) + 4#64) 4 = false) :=
  ⟨by decide, by decide +kernel, ⟨by decide +kernel, by decide +kernel⟩, by decide +kernel, by decide +kernel,
    by decide +kernel, by decide +kernel, ⟨by decide +kernel, by decide +kernel⟩, ⟨by decide +kernel, by decide +kernel⟩,
    by decide +kernel, by decide +kernel, by decide +kernel, by decide +kernel⟩

/-- The last clause, a second half that is refused, with ALIGN_L = 8. -/
theorem test_meets_FloatStoresRun :
    withData.launch.fpuProfile ≠ .none ∧ withData.fpSz = false ∧ withData.Stores (withData.reg (lo 3#4)) 4 ∧
      withData.Stores (withData.reg (lo 1#4) - 4#64) 4 ∧ atTop.accessOk .write (atTop.reg (lo 1#4)) 4 = false ∧
      pairs.fpSz = true ∧ pairs.pairOk 2#4 = true ∧ pairs.Stores (pairs.reg (lo 1#4) - 8#64) 8 ∧
      pairs.Stores (pairs.reg (lo 1#4) - 8#64) 4 ∧ pairs.Stores (pairs.reg (lo 1#4) - 8#64 + 4#64) 4 ∧
      pairs.accessOk .write (pairs.reg (lo 3#4)) 8 = false ∧
      (let s := { pairs with launch := { Launch.default with alignL := 8 } };
        s.Stores (s.reg (lo 1#4)) 8 ∧ s.Stores (s.reg (lo 1#4)) 4 ∧
          s.accessOk .write (s.reg (lo 1#4) + 4#64) 4 = false) :=
  ⟨by decide, by decide +kernel, show _ = _ by decide +kernel, show _ = _ by decide +kernel, by decide +kernel,
    by decide +kernel, by decide +kernel, show _ = _ by decide +kernel, show _ = _ by decide +kernel,
    show _ = _ by decide +kernel, by decide +kernel, show _ = _ by decide +kernel, show _ = _ by decide +kernel,
    by decide +kernel⟩

theorem test_meets_ModeSettingRuns :
    start.launch.fpuProfile ≠ .none ∧ (0xE#4 : BitVec 4).getLsbD 0 = false ∧ (0x1#4 : BitVec 4).getLsbD 0 = true := by
  decide

/-- Each clause: a number, zero, a denormal, and an infinity, in no delay slot. -/
theorem test_meets_HalfPrecisionRuns :
    start.launch.fpuProfile ≠ .none ∧ start.pending = none ∧ start.launch.fpNumerics = .ieee754 ∧
      fpDecode (fpFormat false) (0x3F800000#32).toNat ≠ .nan ∧
      ((0x3C00#16).extractLsb' 10 5 ≠ 31#5 ∧ (0x3C00#16).extractLsb' 10 5 ≠ 0#5) ∧
      ((0x8000#16).extractLsb' 10 5 = 0#5 ∧ (0x8000#16).extractLsb' 0 10 = 0#10) ∧
      ((0x0001#16).extractLsb' 10 5 = 0#5 ∧ (0x0001#16).extractLsb' 0 10 ≠ 0#10) ∧
      (0x7C00#16).extractLsb' 10 5 = 31#5 ∧
      ((start.setReg 1#5 0x3C00#64).reg (lo 1#4)).setWidth 16 = 0x3C00#16 := by decide +kernel

theorem test_meets_LoadHighImmediateRuns : start.launch.fpuProfile ≠ .none ∧ start.pending = none := by decide

/-- PR = 1, PR = 0, in a slot and in none; the Basic profile with an odd number, under PR = 1 and under SZ = 1. -/
theorem test_meets_WrongModeOrPairStops :
    doubles.fpPr = true ∧ start.fpPr = false ∧ start.pending = none ∧ inDelaySlot.pending ≠ none ∧
      (let s := { start with launch := { Launch.default with fpuProfile := .basic }, fpscr := 0x180000#32 };
        s.launch.fpuProfile = .basic ∧ (3#4 : BitVec 4).getLsbD 0 = true ∧ s.fpPr = true ∧ s.fpSz = true) := by
  decide

/-! ## Every constructor's word (spec/opcode_table.json) -/

/-- Each list of words decodes to the instruction beside it, and nothing is left over. -/
def allDecode (l : List (List Word × Instr)) : Bool :=
  l.all fun p => decode (wordsBytes p.1) == .instr p.2 []

def arithmeticWords1 : List (List Word × Instr) :=
  [([0x3B6C#16], .addRmRn 0x6#4 0xB#4),
    ([0xCECC#16, 0x3B6F#16], .addRmRnCe true 0x6#5 0x1B#5),
    ([0x7BC7#16], .addImm8sRn 0xC7#8 0xB#4),
    ([0x8EA5#16, 0x7BC7#16], .addImm16sRn 0xA5C7#16 0xB#4),
    ([0xCEA5#16, 0x7BC7#16], .addImm16sRnHi 0xA5C7#16 0xB#4),
    ([0x8E37#16, 0x3B6C#16], .addRmImm8Rn 0x6#4 0x37#8 0xB#4),
    ([0xCEB7#16, 0x3B6C#16], .addRmImm6Rn 0x6#5 0x37#6 0x1B#5),
    ([0xCEDD#16, 0xAB60#16], .addRmRoRn true 0x6#5 0x1D#5 0x1B#5),
    ([0x3B6E#16], .addcRmRn 0x6#4 0xB#4),
    ([0xCECE#16, 0x3B6F#16], .addcRmRnCe true 0x6#5 0x1B#5),
    ([0xCECF#16, 0x3B6F#16], .addv true 0x6#5 0x1B#5),
    ([0x3B60#16], .cmpEqRmRn 0x6#4 0xB#4),
    ([0xCEC0#16, 0x3B6F#16], .cmpEqRmRnCe true 0x6#5 0x1B#5),
    ([0x88C7#16], .cmpEqImm8sR0 0xC7#8),
    ([0x8E5C#16, 0x3B70#16], .cmpEqImm12sRn 0x5C7#12 0xB#4),
    ([0xCEDC#16, 0x3B70#16], .cmpEqImm10sRn true 0x1C7#10 0x1B#5),
    ([0x8E5C#16, 0x3B73#16], .cmpGeImm12sRn 0x5C7#12 0xB#4),
    ([0xCEDC#16, 0x3B73#16], .cmpGeImm10sRn true 0x1C7#10 0x1B#5),
    ([0xCEC3#16, 0x3B6F#16], .cmpGeRmRn true 0x6#5 0x1B#5),
    ([0x3B67#16], .cmpGtRmRn 0x6#4 0xB#4)]

def arithmeticWords2 : List (List Word × Instr) :=
  [([0x8E5C#16, 0x3B77#16], .cmpGtImm12sRn 0x5C7#12 0xB#4),
    ([0xCEDC#16, 0x3B77#16], .cmpGtImm10sRn true 0x1C7#10 0x1B#5),
    ([0xCEC7#16, 0x3B6F#16], .cmpGtRmRnCe true 0x6#5 0x1B#5),
    ([0x3B66#16], .cmpHiRmRn 0x6#4 0xB#4),
    ([0x8E5C#16, 0x3B76#16], .cmpHiImm12sRn 0x5C7#12 0xB#4),
    ([0xCEC6#16, 0x3B6F#16], .cmpHiRmRnCe true 0x6#5 0x1B#5),
    ([0xCEDC#16, 0x3B76#16], .cmpHiImm10sRn true 0x1C7#10 0x1B#5),
    ([0x8E5C#16, 0x3B72#16], .cmpHsImm12sRn 0x5C7#12 0xB#4),
    ([0xCEC2#16, 0x3B6F#16], .cmpHsRmRn true 0x6#5 0x1B#5),
    ([0xCEDC#16, 0x3B72#16], .cmpHsImm10sRn true 0x1C7#10 0x1B#5),
    ([0x4B15#16], .cmpPl 0xB#4),
    ([0x4B11#16], .cmpPz 0xB#4),
    ([0x05F8#16], .div0s),
    ([0x0019#16], .div0u),
    ([0x04F8#16], .div1),
    ([0x3B6D#16], .dmulsL 0x6#4 0xB#4),
    ([0x3B65#16], .dmuluL 0x6#4 0xB#4),
    ([0x4B10#16], .dt 0xB#4),
    ([0x8E9A#16, 0x9B37#16], .ldsh16zImm16Rn 0x9A37#16 0xB#4),
    ([0xCE9A#16, 0x9B37#16], .ldsh16zImm16RnHi 0x9A37#16 0xB#4)]

def arithmeticWords3 : List (List Word × Instr) :=
  [([0x8E37#16, 0x2B6E#16], .mulRmImm8Rn 0x6#4 0x37#8 0xB#4),
    ([0x8E37#16, 0x2B6F#16], .mulRmNegImm8Rn 0x6#4 0x37#8 0xB#4),
    ([0xCEB7#16, 0x2B6E#16], .mulRmImm6Rn 0x6#5 0x37#6 0x1B#5),
    ([0xCEB7#16, 0x2B6F#16], .mulRmNegImm6Rn 0x6#5 0x37#6 0x1B#5),
    ([0xCEDD#16, 0xAB62#16], .mulRmRoRn true 0x6#5 0x1D#5 0x1B#5),
    ([0x2B6D#16], .mulLRmRn 0x6#4 0xB#4),
    ([0xCE49#16, 0x3B6F#16], .mulLRmRnCe 0x6#5 0x1B#5),
    ([0x2B6F#16], .mulsW 0x6#4 0xB#4),
    ([0x2B6E#16], .muluW 0x6#4 0xB#4),
    ([0x6B6B#16], .negRmRn 0x6#4 0xB#4),
    ([0xCECB#16, 0x6B6F#16], .negRmRnCe true 0x6#5 0x1B#5),
    ([0x6B6A#16], .negcRmRn 0x6#4 0xB#4),
    ([0xCECA#16, 0x6B6F#16], .negcRmRnCe true 0x6#5 0x1B#5),
    ([0x3B68#16], .subRmRn 0x6#4 0xB#4),
    ([0xCEC8#16, 0x3B6F#16], .subRmRnCe true 0x6#5 0x1B#5),
    ([0x8E37#16, 0x3B68#16], .subRmImm8Rn 0x6#4 0x37#8 0xB#4),
    ([0xCEB7#16, 0x3B68#16], .subRmImm6Rn 0x6#5 0x37#6 0x1B#5),
    ([0xCEDD#16, 0xAB61#16], .subRmRoRn true 0x6#5 0x1D#5 0x1B#5),
    ([0x3B6A#16], .subc 0x6#4 0xB#4),
    ([0xCECB#16, 0x3B6F#16], .subv true 0x6#5 0x1B#5)]

theorem test_decodes_arithmeticWords1 : allDecode arithmeticWords1 = true := by decide +kernel

theorem test_decodes_arithmeticWords2 : allDecode arithmeticWords2 = true := by decide +kernel

theorem test_decodes_arithmeticWords3 : allDecode arithmeticWords3 = true := by decide +kernel

def logicWords1 : List (List Word × Instr) :=
  [([0x2B69#16], .andRmRn 0x6#4 0xB#4),
    ([0xC937#16], .andImm8R0 0x37#8),
    ([0x8E5C#16, 0xC9B7#16], .andImm12sRn 0x5C7#12 0xB#4),
    ([0x8E37#16, 0x2B69#16], .andRmImm8Rn 0x6#4 0x37#8 0xB#4),
    ([0xCEB7#16, 0x2B69#16], .andRmImm6Rn 0x6#5 0x37#6 0x1B#5),
    ([0x8E37#16, 0x3B69#16], .andRmNegImm8Rn 0x6#4 0x37#8 0xB#4),
    ([0xCEB7#16, 0x3B69#16], .andRmNegImm6Rn 0x6#5 0x37#6 0x1B#5),
    ([0xCEDD#16, 0xAB63#16], .andRmRoRn true 0x6#5 0x1D#5 0x1B#5),
    ([0xCE5D#16, 0xAB6A#16], .cselt 0x6#5 0x1D#5 0x1B#5),
    ([0x4B50#16], .extsBRn 0xB#4),
    ([0x6B6E#16], .extsBRmRn 0x6#4 0xB#4),
    ([0xCE4E#16, 0x6B6F#16], .extsBRmRnCe 0x6#5 0x1B#5),
    ([0x4B54#16], .extsL 0xB#4),
    ([0x4B51#16], .extsWRn 0xB#4),
    ([0x6B6F#16], .extsWRmRn 0x6#4 0xB#4),
    ([0xCE4F#16, 0x6B6F#16], .extsWRmRnCe 0x6#5 0x1B#5),
    ([0x4B40#16], .extuBRn 0xB#4),
    ([0x6B6C#16], .extuBRmRn 0x6#4 0xB#4),
    ([0xCE4C#16, 0x6B6F#16], .extuBRmRnCe 0x6#5 0x1B#5),
    ([0x4B44#16], .extuLRn 0xB#4)]

def logicWords2 : List (List Word × Instr) :=
  [([0xCE5D#16, 0x6B6F#16], .extuLRmRn 0x6#5 0x1B#5),
    ([0x4B41#16], .extuWRn 0xB#4),
    ([0x6B6D#16], .extuWRmRn 0x6#4 0xB#4),
    ([0xCE4D#16, 0x6B6F#16], .extuWRmRnCe 0x6#5 0x1B#5),
    ([0x4B6F#16], .movRmRn 0x6#4 0xB#4),
    ([0xCE40#16, 0x4B6F#16], .movRmRnCe 0x6#5 0x1B#5),
    ([0xEBC7#16], .movImm8sRn 0xC7#8 0xB#4),
    ([0x8EA5#16, 0xEBC7#16], .movImm16sRn 0xA5C7#16 0xB#4),
    ([0xCEA5#16, 0xEBC7#16], .movImm16sRnHi 0xA5C7#16 0xB#4),
    ([0x0B29#16], .movt 0xB#4),
    ([0x3B6B#16], .notRmRn 0x6#4 0xB#4),
    ([0xCEC7#16, 0x4B6F#16], .notRmRnCe true 0x6#5 0x1B#5),
    ([0x2B6B#16], .orRmRn 0x6#4 0xB#4),
    ([0xCECB#16, 0x4B6F#16], .orRmRnCe true 0x6#5 0x1B#5),
    ([0xCB37#16], .orImm8R0 0x37#8),
    ([0x8E5C#16, 0xCBB7#16], .orImm12sRn 0x5C7#12 0xB#4),
    ([0x8E37#16, 0x2B6B#16], .orRmImm8Rn 0x6#4 0x37#8 0xB#4),
    ([0xCEB7#16, 0x2B6B#16], .orRmImm6Rn 0x6#5 0x37#6 0x1B#5),
    ([0xCEDD#16, 0xAB64#16], .orRmRoRn true 0x6#5 0x1D#5 0x1B#5),
    ([0x4B49#16], .swapBRn 0xB#4)]

def logicWords3 : List (List Word × Instr) :=
  [([0xCE48#16, 0x6B6F#16], .swapBRmRn 0x6#5 0x1B#5),
    ([0x4B59#16], .swapWRn 0xB#4),
    ([0xCE49#16, 0x6B6F#16], .swapWRmRn 0x6#5 0x1B#5),
    ([0x2B68#16], .tstRmRn 0x6#4 0xB#4),
    ([0xCEC8#16, 0x4B6F#16], .tstRmRnCe true 0x6#5 0x1B#5),
    ([0xC837#16], .tstImm8R0 0x37#8),
    ([0x8E5C#16, 0xC8B7#16], .tstImm12sRn 0x5C7#12 0xB#4),
    ([0xCEDC#16, 0xC8B7#16], .tstImm10sRn true 0x1C7#10 0x1B#5),
    ([0x2B6A#16], .xorRmRn 0x6#4 0xB#4),
    ([0xCECA#16, 0x4B6F#16], .xorRmRnCe true 0x6#5 0x1B#5),
    ([0xCA37#16], .xorImm8R0 0x37#8),
    ([0x8E5C#16, 0xCAB7#16], .xorImm12sRn 0x5C7#12 0xB#4),
    ([0xCEDC#16, 0xCAB7#16], .xorImm10sRn true 0x1C7#10 0x1B#5),
    ([0x8E37#16, 0x2B6A#16], .xorRmImm8Rn 0x6#4 0x37#8 0xB#4),
    ([0xCEB7#16, 0x2B6A#16], .xorRmImm6Rn 0x6#5 0x37#6 0x1B#5),
    ([0xCEDD#16, 0xAB65#16], .xorRmRoRn true 0x6#5 0x1D#5 0x1B#5),
    ([0x08F8#16], .xtrctR4R0),
    ([0x09F8#16], .xtrctR0R4)]

theorem test_decodes_logicWords1 : allDecode logicWords1 = true := by decide +kernel

theorem test_decodes_logicWords2 : allDecode logicWords2 = true := by decide +kernel

theorem test_decodes_logicWords3 : allDecode logicWords3 = true := by decide +kernel

def shiftWords1 : List (List Word × Instr) :=
  [([0x4B14#16], .rot32 0xB#4),
    ([0x4B24#16], .rotcl 0xB#4),
    ([0x4B25#16], .rotcr 0xB#4),
    ([0x4B04#16], .rotl 0xB#4),
    ([0x4B05#16], .rotr 0xB#4),
    ([0x4B6C#16], .shadRmRn 0x6#4 0xB#4),
    ([0xCECC#16, 0x4B6F#16], .shadRmRnCe true 0x6#5 0x1B#5),
    ([0x8EC7#16, 0x4B6C#16], .shadRmImmRn 0x6#4 0xC7#8 0xB#4),
    ([0xCEDD#16, 0xAB68#16], .shadRmRoRn true 0x6#5 0x1D#5 0x1B#5),
    ([0xCE87#16, 0x4B6C#16], .shadL 0x6#5 0x7#6 0x1B#5),
    ([0x4B20#16], .shal 0xB#4),
    ([0xCEB7#16, 0x3B6D#16], .shalQ 0x6#5 0x37#6 0x1B#5),
    ([0x4B21#16], .sharRn 0xB#4),
    ([0xCEB7#16, 0x3B6A#16], .sharQ 0x6#5 0x37#6 0x1B#5),
    ([0xCEDD#16, 0xAB69#16], .sharRmRoRn true 0x6#5 0x1D#5 0x1B#5),
    ([0x4B6D#16], .shldRmRn 0x6#4 0xB#4),
    ([0x8EC7#16, 0x4B6D#16], .shldRmImm8Rn 0x6#4 0xC7#8 0xB#4),
    ([0xCE87#16, 0x4B6D#16], .shldRmImm6Rn 0x6#5 0x7#6 0x1B#5),
    ([0xCEDD#16, 0xAB66#16], .shldRmRoRn true 0x6#5 0x1D#5 0x1B#5),
    ([0x4B00#16], .shll 0xB#4)]

def shiftWords2 : List (List Word × Instr) :=
  [([0x4B08#16], .shll2 0xB#4),
    ([0x4B34#16], .shll4 0xB#4),
    ([0x4B18#16], .shll8 0xB#4),
    ([0x4B28#16], .shll16 0xB#4),
    ([0x4B38#16], .shll32 0xB#4),
    ([0x4B01#16], .shlrRn 0xB#4),
    ([0xCEB7#16, 0x3B6B#16], .shlrQ 0x6#5 0x37#6 0x1B#5),
    ([0xCEDD#16, 0xAB67#16], .shlrRmRoRn true 0x6#5 0x1D#5 0x1B#5),
    ([0x4B09#16], .shlr2 0xB#4),
    ([0x4B35#16], .shlr4 0xB#4),
    ([0x4B19#16], .shlr8 0xB#4),
    ([0x4B29#16], .shlr16 0xB#4),
    ([0x4B39#16], .shlr32 0xB#4)]

theorem test_decodes_shiftWords1 : allDecode shiftWords1 = true := by decide +kernel

theorem test_decodes_shiftWords2 : allDecode shiftWords2 = true := by decide +kernel

def loadstoreWords1 : List (List Word × Instr) :=
  [([0x06F8#16], .casL),
    ([0x4BF5#16], .leaBAtPcR0Rn 0xB#4),
    ([0x8EDE#16, 0x6B64#16], .leaBAtRmRoDisp4Rn 0x6#4 0xD#4 0xE#4 0xB#4),
    ([0x8E9E#16, 0x6B68#16], .leaBAtRmDisp8sRn 0x6#4 0x9E#8 0xB#4),
    ([0xCE8D#16, 0x6B64#16], .leaBAtRmRoRn 0x6#5 0xD#4 0x1B#5),
    ([0xCE9E#16, 0x6B68#16], .leaBAtRmDisp6Rn 0x6#5 0x1E#6 0x1B#5),
    ([0x8EDE#16, 0x6B65#16], .leaWAtRmRoDisp4Rn 0x6#4 0xD#4 0xE#4 0xB#4),
    ([0x8E9E#16, 0x6B69#16], .leaWAtRmDisp8sRn 0x6#4 0x9E#8 0xB#4),
    ([0xCE8D#16, 0x6B65#16], .leaWAtRmRoRn 0x6#5 0xD#4 0x1B#5),
    ([0xCE9E#16, 0x6B69#16], .leaWAtRmDisp6Rn 0x6#5 0x1E#6 0x1B#5),
    ([0x8EDE#16, 0x6B66#16], .leaLAtRmRoDisp4Rn 0x6#4 0xD#4 0xE#4 0xB#4),
    ([0x8E9E#16, 0x6B6A#16], .leaLAtRmDisp8sRn 0x6#4 0x9E#8 0xB#4),
    ([0xCE8D#16, 0x6B66#16], .leaLAtRmRoRn 0x6#5 0xD#4 0x1B#5),
    ([0xCE9E#16, 0x6B6A#16], .leaLAtRmDisp6Rn 0x6#5 0x1E#6 0x1B#5),
    ([0x8EDE#16, 0x6B67#16], .leaQAtRmRoDisp4Rn 0x6#4 0xD#4 0xE#4 0xB#4),
    ([0x8E9E#16, 0x6B6B#16], .leaQAtRmDisp8sRn 0x6#4 0x9E#8 0xB#4),
    ([0xCE8D#16, 0x6B67#16], .leaQAtRmRoRn 0x6#5 0xD#4 0x1B#5),
    ([0xCE9E#16, 0x6B6B#16], .leaQAtRmDisp6Rn 0x6#5 0x1E#6 0x1B#5),
    ([0x0B64#16], .movBRmAtR0Rn 0x6#4 0xB#4),
    ([0x2B60#16], .movBRmAtRn 0x6#4 0xB#4)]

def loadstoreWords2 : List (List Word × Instr) :=
  [([0x2B64#16], .movBRmDecRn 0x6#4 0xB#4),
    ([0x0B6C#16], .movBAtR0RmRn 0x6#4 0xB#4),
    ([0x6B60#16], .movBAtRmRn 0x6#4 0xB#4),
    ([0x6B64#16], .movBIncRmRn 0x6#4 0xB#4),
    ([0x46C1#16], .movBRmAtPcR0 0x6#4),
    ([0x4BC5#16], .movBAtPcR0Rn 0xB#4),
    ([0x8EDE#16, 0x0B64#16], .movBRmAtRnRoDisp4 0x6#4 0xB#4 0xD#4 0xE#4),
    ([0x8E9E#16, 0x2B60#16], .movBRmAtRnDisp8s 0x6#4 0xB#4 0x9E#8),
    ([0x8EDE#16, 0x0B6C#16], .movBAtRmRoDisp4Rn 0x6#4 0xD#4 0xE#4 0xB#4),
    ([0x8E9E#16, 0x6B60#16], .movBAtRmDisp8sRn 0x6#4 0x9E#8 0xB#4),
    ([0xCE5D#16, 0x0B64#16], .movBRmAtRnRo 0x6#5 0x1B#5 0x1D#5),
    ([0xCE9E#16, 0x2B60#16], .movBRmAtRnDisp6 0x6#5 0x1B#5 0x1E#6),
    ([0xCE5D#16, 0x0B6C#16], .movBAtRmRoRn 0x6#5 0x1D#5 0x1B#5),
    ([0xCE9E#16, 0x6B60#16], .movBAtRmDisp6Rn 0x6#5 0x1E#6 0x1B#5),
    ([0x0B66#16], .movLRmAtR0Rn 0x6#4 0xB#4),
    ([0x1B6E#16], .movLRmAtRnDisp4 0x6#4 0xB#4 0xE#4),
    ([0x2B62#16], .movLRmAtRn 0x6#4 0xB#4),
    ([0x2B66#16], .movLRmDecRn 0x6#4 0xB#4),
    ([0x0B6E#16], .movLAtR0RmRn 0x6#4 0xB#4),
    ([0x5B6E#16], .movLAtRmDisp4Rn 0x6#4 0xE#4 0xB#4)]

def loadstoreWords3 : List (List Word × Instr) :=
  [([0x6B62#16], .movLAtRmRn 0x6#4 0xB#4),
    ([0x6B66#16], .movLIncRmRn 0x6#4 0xB#4),
    ([0xDB9E#16], .movLAtPcDisp8Rn 0x9E#8 0xB#4),
    ([0x46E1#16], .movLRmAtPcR0 0x6#4),
    ([0x4BE5#16], .movLAtPcR0Rn 0xB#4),
    ([0x8EDE#16, 0x0B66#16], .movLRmAtRnRoDisp4 0x6#4 0xB#4 0xD#4 0xE#4),
    ([0x8E9E#16, 0x1B6D#16], .movLRmAtRnRoDisp8s 0x6#4 0xB#4 0xD#4 0x9E#8),
    ([0x8E9E#16, 0x2B62#16], .movLRmAtRnDisp8s 0x6#4 0xB#4 0x9E#8),
    ([0x8EDE#16, 0x0B6E#16], .movLAtRmRoDisp4Rn 0x6#4 0xD#4 0xE#4 0xB#4),
    ([0x8E9E#16, 0x5B6D#16], .movLAtRmRoDisp8sRn 0x6#4 0xD#4 0x9E#8 0xB#4),
    ([0x8E9E#16, 0x6B62#16], .movLAtRmDisp8sRn 0x6#4 0x9E#8 0xB#4),
    ([0xCE5D#16, 0x0B66#16], .movLRmAtRnRo 0x6#5 0x1B#5 0x1D#5),
    ([0xCE9E#16, 0x2B62#16], .movLRmAtRnDisp6 0x6#5 0x1B#5 0x1E#6),
    ([0xCE5D#16, 0x0B6E#16], .movLAtRmRoRn 0x6#5 0x1D#5 0x1B#5),
    ([0xCE9E#16, 0x6B62#16], .movLAtRmDisp6Rn 0x6#5 0x1E#6 0x1B#5),
    ([0x0B67#16], .movQRmAtR0Rn 0x6#4 0xB#4),
    ([0x0B6F#16], .movQAtR0RmRn 0x6#4 0xB#4),
    ([0x2B63#16], .movQRmAtRn 0x6#4 0xB#4),
    ([0x2B67#16], .movQRmDecRn 0x6#4 0xB#4),
    ([0x46A1#16], .movQRmAtPcR0 0x6#4)]

def loadstoreWords4 : List (List Word × Instr) :=
  [([0x4BA5#16], .movQAtPcR0Rn 0xB#4),
    ([0x6B63#16], .movQAtRmRn 0x6#4 0xB#4),
    ([0x6B67#16], .movQIncRmRn 0x6#4 0xB#4),
    ([0xC06E#16], .movQRmAtSpDisp4 0x6#4 0xE#4),
    ([0xC4BE#16], .movQAtSpDisp4Rn 0xE#4 0xB#4),
    ([0x8EDE#16, 0x0B67#16], .movQRmAtRnRoDisp4 0x6#4 0xB#4 0xD#4 0xE#4),
    ([0x8EDE#16, 0x0B6F#16], .movQAtRmRoDisp4Rn 0x6#4 0xD#4 0xE#4 0xB#4),
    ([0x8E9E#16, 0x2B63#16], .movQRmAtRnDisp8s 0x6#4 0xB#4 0x9E#8),
    ([0x8E9E#16, 0x6B63#16], .movQAtRmDisp8sRn 0x6#4 0x9E#8 0xB#4),
    ([0xCE5D#16, 0x0B67#16], .movQRmAtRnRo 0x6#5 0x1B#5 0x1D#5),
    ([0xCE5D#16, 0x0B6F#16], .movQAtRmRoRn 0x6#5 0x1D#5 0x1B#5),
    ([0xCE9E#16, 0x2B63#16], .movQRmAtRnDisp6 0x6#5 0x1B#5 0x1E#6),
    ([0xCE9E#16, 0x6B63#16], .movQAtRmDisp6Rn 0x6#5 0x1E#6 0x1B#5),
    ([0x0B65#16], .movWRmAtR0Rn 0x6#4 0xB#4),
    ([0x0B6D#16], .movWAtR0RmRn 0x6#4 0xB#4),
    ([0x2B61#16], .movWRmAtRn 0x6#4 0xB#4),
    ([0x2B65#16], .movWRmDecRn 0x6#4 0xB#4),
    ([0x46D1#16], .movWRmAtPcR0 0x6#4),
    ([0x4BD5#16], .movWAtPcR0Rn 0xB#4),
    ([0x6B61#16], .movWAtRmRn 0x6#4 0xB#4)]

def loadstoreWords5 : List (List Word × Instr) :=
  [([0x6B65#16], .movWIncRmRn 0x6#4 0xB#4),
    ([0x9B9E#16], .movWAtPcDisp8Rn 0x9E#8 0xB#4),
    ([0x8EDE#16, 0x0B65#16], .movWRmAtRnRoDisp4 0x6#4 0xB#4 0xD#4 0xE#4),
    ([0x8EDE#16, 0x0B6D#16], .movWAtRmRoDisp4Rn 0x6#4 0xD#4 0xE#4 0xB#4),
    ([0x8E9E#16, 0x2B61#16], .movWRmAtRnDisp8s 0x6#4 0xB#4 0x9E#8),
    ([0x8E9E#16, 0x6B61#16], .movWAtRmDisp8sRn 0x6#4 0x9E#8 0xB#4),
    ([0xCE5D#16, 0x0B65#16], .movWRmAtRnRo 0x6#5 0x1B#5 0x1D#5),
    ([0xCE9E#16, 0x2B61#16], .movWRmAtRnDisp6 0x6#5 0x1B#5 0x1E#6),
    ([0xCE5D#16, 0x0B6D#16], .movWAtRmRoRn 0x6#5 0x1D#5 0x1B#5),
    ([0xCE9E#16, 0x6B61#16], .movWAtRmDisp6Rn 0x6#5 0x1E#6 0x1B#5),
    ([0xC79E#16], .mova 0x9E#8),
    ([0x0BC3#16], .movcaL 0xB#4),
    ([0x8E9E#16, 0x6B6C#16], .movuBAtRmDisp8sRn 0x6#4 0x9E#8 0xB#4),
    ([0xCE9E#16, 0x6B6C#16], .movuBAtRmDisp6Rn 0x6#5 0x1E#6 0x1B#5),
    ([0x8E9E#16, 0x6B6D#16], .movuWAtRmDisp8sRn 0x6#4 0x9E#8 0xB#4),
    ([0xCE9E#16, 0x6B6D#16], .movuWAtRmDisp6Rn 0x6#5 0x1E#6 0x1B#5),
    ([0x8E9E#16, 0x6B6E#16], .movuLAtRmDisp8sRn 0x6#4 0x9E#8 0xB#4),
    ([0xCE9E#16, 0x6B6E#16], .movuLAtRmDisp6Rn 0x6#5 0x1E#6 0x1B#5),
    ([0x4B58#16], .popQRn 0xB#4),
    ([0x4B78#16], .popQRnHi 0xB#4)]

def loadstoreWords6 : List (List Word × Instr) :=
  [([0x4648#16], .pushQRm 0x6#4),
    ([0x4668#16], .pushQRmHi 0x6#4)]

theorem test_decodes_loadstoreWords1 : allDecode loadstoreWords1 = true := by decide +kernel

theorem test_decodes_loadstoreWords2 : allDecode loadstoreWords2 = true := by decide +kernel

theorem test_decodes_loadstoreWords3 : allDecode loadstoreWords3 = true := by decide +kernel

theorem test_decodes_loadstoreWords4 : allDecode loadstoreWords4 = true := by decide +kernel

theorem test_decodes_loadstoreWords5 : allDecode loadstoreWords5 = true := by decide +kernel

theorem test_decodes_loadstoreWords6 : allDecode loadstoreWords6 = true := by decide +kernel

def branchWords1 : List (List Word × Instr) :=
  [([0x8B9E#16], .bfLabel8s 0x9E#8),
    ([0x8E5C#16, 0x8B9E#16], .bfLabel16s 0x5C9E#16),
    ([0x8F9E#16], .bfSLabel8s 0x9E#8),
    ([0x8E5C#16, 0x8F9E#16], .bfSLabel16s 0x5C9E#16),
    ([0xAC9E#16], .bra 0xC9E#12),
    ([0x0B23#16], .braf 0xB#4),
    ([0x829E#16], .braNLabel8s 0x9E#8),
    ([0x8E5C#16, 0x829E#16], .braNLabel16s 0x5C9E#16),
    ([0xBC9E#16], .bsr 0xC9E#12),
    ([0x0B03#16], .bsrf 0xB#4),
    ([0x8E5C#16, 0x839E#16], .bsrN 0x5C9E#16),
    ([0x899E#16], .btLabel8s 0x9E#8),
    ([0x8E5C#16, 0x899E#16], .btLabel16s 0x5C9E#16),
    ([0x8D9E#16], .btSLabel8s 0x9E#8),
    ([0x8E5C#16, 0x8D9E#16], .btSLabel16s 0x5C9E#16),
    ([0x4B2B#16], .jmp 0xB#4),
    ([0x4B0B#16], .jsr 0xB#4),
    ([0x000B#16], .rts)]

theorem test_decodes_branchWords1 : allDecode branchWords1 = true := by decide +kernel

def systemWords1 : List (List Word × Instr) :=
  [([0x003B#16], .brk),
    ([0x0028#16], .clrmac),
    ([0x0048#16], .clrs),
    ([0x0008#16], .clrt),
    ([0x460E#16], .ldcRmSr 0x6#4),
    ([0x461E#16], .ldcRmGbr 0x6#4),
    ([0x462E#16], .ldcRmVbr 0x6#4),
    ([0x463E#16], .ldcRmSsr 0x6#4),
    ([0x464E#16], .ldcRmSpc 0x6#4),
    ([0x46DE#16], .ldcRmBank 0x6#4 0x5#3),
    ([0x46FA#16], .ldcRmDbr 0x6#4),
    ([0x4607#16], .ldcLIncRmSr 0x6#4),
    ([0x4617#16], .ldcLIncRmGbr 0x6#4),
    ([0x4627#16], .ldcLIncRmVbr 0x6#4),
    ([0x4637#16], .ldcLIncRmSsr 0x6#4),
    ([0x4647#16], .ldcLIncRmSpc 0x6#4),
    ([0x46D7#16], .ldcLIncRmBank 0x6#4 0x5#3),
    ([0x46F6#16], .ldcLIncRmDbr 0x6#4),
    ([0x460A#16], .ldsRmMach 0x6#4),
    ([0x461A#16], .ldsRmMacl 0x6#4)]

def systemWords2 : List (List Word × Instr) :=
  [([0x462A#16], .ldsRmPr 0x6#4),
    ([0x465A#16], .ldsRmFpul 0x6#4),
    ([0x466A#16], .ldsRmFpscr 0x6#4),
    ([0x4606#16], .ldsLIncRmMach 0x6#4),
    ([0x4616#16], .ldsLIncRmMacl 0x6#4),
    ([0x4626#16], .ldsLIncRmPr 0x6#4),
    ([0x4656#16], .ldsLIncRmFpul 0x6#4),
    ([0x4666#16], .ldsLIncRmFpscr 0x6#4),
    ([0x0038#16], .ldtlb),
    ([0x0009#16], .nop),
    ([0x0709#16], .nopImm 0x7#4),
    ([0x002B#16], .rte),
    ([0x0058#16], .sets),
    ([0x0018#16], .sett),
    ([0x001B#16], .sleep),
    ([0x0B02#16], .stcSrRn 0xB#4),
    ([0x0B12#16], .stcGbrRn 0xB#4),
    ([0x0B22#16], .stcVbrRn 0xB#4),
    ([0x0B32#16], .stcSsrRn 0xB#4),
    ([0x0B42#16], .stcSpcRn 0xB#4)]

def systemWords3 : List (List Word × Instr) :=
  [([0x0BFA#16], .stcDbrRn 0xB#4),
    ([0x0BB2#16], .stcBankRn 0x3#3 0xB#4),
    ([0x4B03#16], .stcLSrDecRn 0xB#4),
    ([0x4B13#16], .stcLGbrDecRn 0xB#4),
    ([0x4B23#16], .stcLVbrDecRn 0xB#4),
    ([0x4B33#16], .stcLSsrDecRn 0xB#4),
    ([0x4B43#16], .stcLSpcDecRn 0xB#4),
    ([0x4BF2#16], .stcLDbrDecRn 0xB#4),
    ([0x4BB3#16], .stcLBankDecRn 0x3#3 0xB#4),
    ([0x0B0A#16], .stsMachRn 0xB#4),
    ([0x0B1A#16], .stsMaclRn 0xB#4),
    ([0x0B2A#16], .stsPrRn 0xB#4),
    ([0x0B5A#16], .stsFpulRn 0xB#4),
    ([0x0B6A#16], .stsFpscrRn 0xB#4),
    ([0x4B02#16], .stsLMachDecRn 0xB#4),
    ([0x4B12#16], .stsLMaclDecRn 0xB#4),
    ([0x4B22#16], .stsLPrDecRn 0xB#4),
    ([0x4B52#16], .stsLFpulDecRn 0xB#4),
    ([0x4B62#16], .stsLFpscrDecRn 0xB#4),
    ([0xC337#16], .trapa 0x37#8)]

theorem test_decodes_systemWords1 : allDecode systemWords1 = true := by decide +kernel

theorem test_decodes_systemWords2 : allDecode systemWords2 = true := by decide +kernel

theorem test_decodes_systemWords3 : allDecode systemWords3 = true := by decide +kernel

def fpuWords1 : List (List Word × Instr) :=
  [([0xFB5D#16], .fabs 0xB#4),
    ([0xFB60#16], .fadd 0x6#4 0xB#4),
    ([0xFB64#16], .fcmpeq 0x6#4 0xB#4),
    ([0xFB65#16], .fcmpgt 0x6#4 0xB#4),
    ([0xF6BD#16], .fcnvds 0x6#4),
    ([0xFBAD#16], .fcnvsd 0xB#4),
    ([0xFB63#16], .fdiv 0x6#4 0xB#4),
    ([0xFBED#16], .fipr 0x3#2 0x2#2),
    ([0xFB8D#16], .fldi0 0xB#4),
    ([0xFB9D#16], .fldi1 0xB#4),
    ([0xF61D#16], .flds 0x6#4),
    ([0xFB2D#16], .float 0xB#4),
    ([0xFB6E#16], .fmac 0x6#4 0xB#4),
    ([0xFB6C#16], .fmov 0x6#4 0xB#4),
    ([0xFB66#16], .fmovSAtR0RmFrn 0x6#4 0xB#4),
    ([0xFB67#16], .fmovSFrmAtR0Rn 0x6#4 0xB#4),
    ([0xFB68#16], .fmovSAtRmFrn 0x6#4 0xB#4),
    ([0xFB69#16], .fmovSIncRmFrn 0x6#4 0xB#4),
    ([0xFB6A#16], .fmovSFrmAtRn 0x6#4 0xB#4),
    ([0xFB6B#16], .fmovSFrmDecRn 0x6#4 0xB#4)]

def fpuWords2 : List (List Word × Instr) :=
  [([0xFB62#16], .fmul 0x6#4 0xB#4),
    ([0xFB4D#16], .fneg 0xB#4),
    ([0xFB6D#16], .fsqrt 0xB#4),
    ([0xFB61#16], .fsub 0x6#4 0xB#4),
    ([0xF7DD#16], .psetmd4 0x7#4),
    ([0xF63D#16], .ftrc 0x6#4),
    ([0x4671#16], .ldhf16RmFpul 0x6#4),
    ([0x8E9A#16, 0x8A37#16], .ldhf16Imm16Fpul 0x9A37#16),
    ([0x8E9A#16, 0x8C37#16], .ldif16 0x9A37#16),
    ([0x4B61#16], .sthf16 0xB#4)]

theorem test_decodes_fpuWords1 : allDecode fpuWords1 = true := by decide +kernel

theorem test_decodes_fpuWords2 : allDecode fpuWords2 = true := by decide +kernel

/-! ## Steps of the spec's test vectors -/

/-- V-A-2, ADD Rm, Rn: R1=0x7FFFFFFF, R2=0x1 gives R1=0xFFFFFFFF80000000; 32-bit wrap, sign-extended. -/
theorem test_vector_A2 : after [0x312C#16] ((start.setReg 1#5 0x7FFFFFFF#64).setReg 2#5 0x1#64)
    (fun t => t.reg 1#5 == 0xFFFFFFFF80000000#64 && t.pc == 0x1002#64) = true := by decide +kernel

/-- V-A-7, ADD #imm8s, Rn: R1=0x7FFFFFFF gives R1=0x7FFFFF7F; imm8s=-128. -/
theorem test_vector_A7 : after [0x7180#16] (start.setReg 1#5 0x7FFFFFFF#64)
    (fun t => t.reg 1#5 == 0x7FFFFF7F#64 && t.pc == 0x1002#64) = true := by decide +kernel

/-- V-A-12, ADD Rm, #imm6, Rn: R20=0x64 gives R3=0x85; f=0110: n4=0 m4=1, ii=10 -> imm6=0x21. -/
theorem test_vector_A12 : after [0xCE61#16, 0x334C#16] (start.setReg 20#5 0x64#64)
    (fun t => t.reg 3#5 == 0x85#64 && t.pc == 0x1004#64) = true := by decide +kernel

/-- V-A-17, ADDC Rm, Rn: R1=0xFFFFFFFFFFFFFFFF, R2=0x0, T=1, DQ=1 gives R1=0x0, T=1. -/
theorem test_vector_A17 : after [0x312E#16] { ((start.setReg 1#5 0xFFFFFFFFFFFFFFFF#64).setReg 2#5 0x0#64) with sr := 0x80001001#32 }
    (fun t => t.reg 1#5 == 0#64 && t.flagT == true && t.pc == 0x1002#64) = true := by decide +kernel

/-- V-A-22, CMP/EQ Rm, Rn: R1=0x5, R2=0x5 gives T=1. -/
theorem test_vector_A22 : after [0x3120#16] ((start.setReg 1#5 0x5#64).setReg 2#5 0x5#64)
    (fun t => t.flagT == true && t.pc == 0x1002#64) = true := by decide +kernel

/-- V-A-27, CMP/EQ #imm12s, Rn: R1=0xFFFFFFFFFFFFFFFF gives T=1; imm12s=-1. -/
theorem test_vector_A27 : after [0x8EFF#16, 0x31F0#16] (start.setReg 1#5 0xFFFFFFFFFFFFFFFF#64)
    (fun t => t.flagT == true && t.pc == 0x1004#64) = true := by decide +kernel

/-- V-A-32, CMP/GT Rm, Rn: R1=0x3, R2=0xFFFFFFFFFFFFFFFF gives T=1. -/
theorem test_vector_A32 : after [0x3127#16] ((start.setReg 1#5 0x3#64).setReg 2#5 0xFFFFFFFFFFFFFFFF#64)
    (fun t => t.flagT == true && t.pc == 0x1002#64) = true := by decide +kernel

/-- V-A-37, CMP/HS Rm, Rn: R1=0x3, R2=0x3 gives T=1. -/
theorem test_vector_A37 : after [0xCE02#16, 0x312F#16] ((start.setReg 1#5 0x3#64).setReg 2#5 0x3#64)
    (fun t => t.flagT == true && t.pc == 0x1004#64) = true := by decide +kernel

/-- V-A-42, CMP/PZ Rn: R1=0x0 gives T=1. -/
theorem test_vector_A42 : after [0x4111#16] (start.setReg 1#5 0x0#64)
    (fun t => t.flagT == true && t.pc == 0x1002#64) = true := by decide +kernel

/-- V-A-47, DIV1 R5, R4: R4=0x7, R5=0x2, Q=0, M=0, T=0 gives R4=0xC, Q=0, T=1. -/
theorem test_vector_A47 : after [0x04F8#16] ((start.setReg 4#5 0x7#64).setReg 5#5 0x2#64)
    (fun t => t.reg 4#5 == 0xC#64 && t.flagQ == false && t.flagT == true && t.pc == 0x1002#64) = true := by decide +kernel

/-- V-A-52, DMULU.L Rm, Rn: R1=0xFFFFFFFF, R2=0xFFFFFFFF gives MACH=0xFFFFFFFE, MACL=0x1. -/
theorem test_vector_A52 : after [0x3125#16] ((start.setReg 1#5 0xFFFFFFFF#64).setReg 2#5 0xFFFFFFFF#64)
    (fun t => t.mach == 0xFFFFFFFE#32 && t.macl == 1#32 && t.pc == 0x1002#64) = true := by decide +kernel

/-- V-A-57, LDSH16Z #imm16, Rn (R0..R15): R1=0xDEAD gives R1=0xDEADBEEF. -/
theorem test_vector_A57 : after [0x8EBE#16, 0x91EF#16] (start.setReg 1#5 0xDEAD#64)
    (fun t => t.reg 1#5 == 0xDEADBEEF#64 && t.pc == 0x1004#64) = true := by decide +kernel

/-- V-A-62, MUL Rm, Ro, Rn: R2=0x10000, R3=0x10000 gives R1=0x0. -/
theorem test_vector_A62 : after [0xCE03#16, 0xA122#16] ((start.setReg 2#5 0x10000#64).setReg 3#5 0x10000#64)
    (fun t => t.reg 1#5 == 0#64 && t.pc == 0x1004#64) = true := by decide +kernel

/-- V-A-67, MULU.W Rm, Rn: R1=0xFFFF, R2=0x2 gives MACL=0x1FFFE. -/
theorem test_vector_A67 : after [0x212E#16] ((start.setReg 1#5 0xFFFF#64).setReg 2#5 0x2#64)
    (fun t => t.macl == 0x1FFFE#32 && t.pc == 0x1002#64) = true := by decide +kernel

/-- V-A-72, NEGC Rm, Rn: R2=0x0, T=1 gives R1=0xFFFFFFFFFFFFFFFF, T=1. -/
theorem test_vector_A72 : after [0x612A#16] { (start.setReg 2#5 0x0#64) with sr := 0x80000001#32 }
    (fun t => t.reg 1#5 == 0xFFFFFFFFFFFFFFFF#64 && t.flagT == true && t.pc == 0x1002#64) = true := by decide +kernel

/-- V-A-77, SUBC Rm, Rn: R1=0x5, R2=0x4, T=1 gives R1=0x0, T=0. -/
theorem test_vector_A77 : after [0x312A#16] { ((start.setReg 1#5 0x5#64).setReg 2#5 0x4#64) with sr := 0x80000001#32 }
    (fun t => t.reg 1#5 == 0#64 && t.flagT == false && t.pc == 0x1002#64) = true := by decide +kernel

/-- V-L-2, AND Rm, Rn: R1=0xFF00FF00FF00FF00, R2=0xFF00FF00FF00FF0, DQ=1 gives R1=0xF000F000F000F00; W=64. -/
theorem test_vector_L2 : after [0x2129#16] { ((start.setReg 1#5 0xFF00FF00FF00FF00#64).setReg 2#5 0xFF00FF00FF00FF0#64) with sr := 0x80001000#32 }
    (fun t => t.reg 1#5 == 0xF000F000F000F00#64 && t.pc == 0x1002#64) = true := by decide +kernel

/-- V-L-7, AND Rm, Ro, Rn: R2=0xFF, R3=0x3C gives R1=0x3C. -/
theorem test_vector_L7 : after [0xCE03#16, 0xA123#16] ((start.setReg 2#5 0xFF#64).setReg 3#5 0x3C#64)
    (fun t => t.reg 1#5 == 0x3C#64 && t.pc == 0x1004#64) = true := by decide +kernel

/-- V-L-12, EXTS.L Rn: R1=0x180000000 gives R1=0xFFFFFFFF80000000. -/
theorem test_vector_L12 : after [0x4154#16] (start.setReg 1#5 0x180000000#64)
    (fun t => t.reg 1#5 == 0xFFFFFFFF80000000#64 && t.pc == 0x1002#64) = true := by decide +kernel

/-- V-L-17, EXTU.L Rn: R1=0xFFFFFFFFFFFFFFFF gives R1=0xFFFFFFFF. -/
theorem test_vector_L17 : after [0x4144#16] (start.setReg 1#5 0xFFFFFFFFFFFFFFFF#64)
    (fun t => t.reg 1#5 == 0xFFFFFFFF#64 && t.pc == 0x1002#64) = true := by decide +kernel

/-- V-L-22, MOV Rm, Rn: R17=0x1122334455667788 gives R20=0x1122334455667788. -/
theorem test_vector_L22 : after [0xCE60#16, 0x441F#16] (start.setReg 17#5 0x1122334455667788#64)
    (fun t => t.reg 20#5 == 0x1122334455667788#64 && t.pc == 0x1004#64) = true := by decide +kernel

/-- V-L-27, MOVT Rn: T=1 gives R1=0x1. -/
theorem test_vector_L27 : after [0x0129#16] { start with sr := 0x80000001#32 }
    (fun t => t.reg 1#5 == 1#64 && t.pc == 0x1002#64) = true := by decide +kernel

/-- V-L-32, OR Rm, Rn: R1=0xF0, R2=0xF gives R1=0xFF. -/
theorem test_vector_L32 : after [0x212B#16] ((start.setReg 1#5 0xF0#64).setReg 2#5 0xF#64)
    (fun t => t.reg 1#5 == 0xFF#64 && t.pc == 0x1002#64) = true := by decide +kernel

/-- V-L-37, SWAP.B Rn: R1=0x12345678 gives R1=0x12347856. -/
theorem test_vector_L37 : after [0x4149#16] (start.setReg 1#5 0x12345678#64)
    (fun t => t.reg 1#5 == 0x12347856#64 && t.pc == 0x1002#64) = true := by decide +kernel

/-- V-L-42, TST Rm, Rn: R1=0xF0, R2=0x1F gives T=0. -/
theorem test_vector_L42 : after [0x2128#16] ((start.setReg 1#5 0xF0#64).setReg 2#5 0x1F#64)
    (fun t => t.flagT == false && t.pc == 0x1002#64) = true := by decide +kernel

/-- V-L-47, XOR Rm, Rn: R1=0xFF, R2=0xF gives R1=0xF0. -/
theorem test_vector_L47 : after [0x212A#16] ((start.setReg 1#5 0xFF#64).setReg 2#5 0xF#64)
    (fun t => t.reg 1#5 == 0xF0#64 && t.pc == 0x1002#64) = true := by decide +kernel

/-- V-L-52, XTRCT R4, R0: R4=0x11112222, R0=0x33334444 gives R0=0x22223333. -/
theorem test_vector_L52 : after [0x08F8#16] ((start.setReg 4#5 0x11112222#64).setReg 0#5 0x33334444#64)
    (fun t => t.reg 0#5 == 0x22223333#64 && t.pc == 0x1002#64) = true := by decide +kernel

/-- V-S-2, ROTCL Rn: R1=0x80000000, T=1 gives R1=0x1, T=1. -/
theorem test_vector_S2 : after [0x4124#16] { (start.setReg 1#5 0x80000000#64) with sr := 0x80000001#32 }
    (fun t => t.reg 1#5 == 1#64 && t.flagT == true && t.pc == 0x1002#64) = true := by decide +kernel

/-- V-S-7, ROTL Rn: R1=0x80000001 gives R1=0x3, T=1. -/
theorem test_vector_S7 : after [0x4104#16] (start.setReg 1#5 0x80000001#64)
    (fun t => t.reg 1#5 == 3#64 && t.flagT == true && t.pc == 0x1002#64) = true := by decide +kernel

/-- V-S-12, SHAD Rm, Rn: R1=0x80000000, R2=0xFFFFFFFFFFFFFFC0 gives R1=0xFFFFFFFFFFFFFFFF; amount -64: k=0, fill
value. -/
theorem test_vector_S12 : after [0x412C#16] ((start.setReg 1#5 0x80000000#64).setReg 2#5 0xFFFFFFFFFFFFFFC0#64)
    (fun t => t.reg 1#5 == 0xFFFFFFFFFFFFFFFF#64 && t.pc == 0x1002#64) = true := by decide +kernel

/-- V-S-17, SHAD Rm, #imm, Rn: R2=0x11 gives R1=0x110. -/
theorem test_vector_S17 : after [0x8E04#16, 0x412C#16] (start.setReg 2#5 0x11#64)
    (fun t => t.reg 1#5 == 0x110#64 && t.pc == 0x1004#64) = true := by decide +kernel

/-- V-S-22, SHAR Rn: R1=0x80000001 gives R1=0xFFFFFFFFC0000000, T=1. -/
theorem test_vector_S22 : after [0x4121#16] (start.setReg 1#5 0x80000001#64)
    (fun t => t.reg 1#5 == 0xFFFFFFFFC0000000#64 && t.flagT == true && t.pc == 0x1002#64) = true := by decide +kernel

/-- V-S-27, SHLD Rm, Rn: R1=0xFFFFFFFF80000000, R2=0xFFFFFFFFFFFFFFE1 gives R1=0x1; dq=0: input zero-extended from
bit 31. -/
theorem test_vector_S27 : after [0x412D#16] ((start.setReg 1#5 0xFFFFFFFF80000000#64).setReg 2#5 0xFFFFFFFFFFFFFFE1#64)
    (fun t => t.reg 1#5 == 1#64 && t.pc == 0x1002#64) = true := by decide +kernel

/-- V-S-32, SHLD Rm, Ro, Rn: R1=0xF0, R2=0xFFFFFFFFFFFFFFFC gives R3=0xF. -/
theorem test_vector_S32 : after [0xCE02#16, 0xA316#16] ((start.setReg 1#5 0xF0#64).setReg 2#5 0xFFFFFFFFFFFFFFFC#64)
    (fun t => t.reg 3#5 == 0xF#64 && t.pc == 0x1004#64) = true := by decide +kernel

/-- V-S-37, SHLL16 Rn: R1=0x8001 gives R1=0xFFFFFFFF80010000. -/
theorem test_vector_S37 : after [0x4128#16] (start.setReg 1#5 0x8001#64)
    (fun t => t.reg 1#5 == 0xFFFFFFFF80010000#64 && t.pc == 0x1002#64) = true := by decide +kernel

/-- V-S-42, SHLR Rm, Ro, Rn: R1=0x8000000000000000, R2=0x4 gives R3=0x800000000000000; q=1. -/
theorem test_vector_S42 : after [0xCE82#16, 0xA317#16] ((start.setReg 1#5 0x8000000000000000#64).setReg 2#5 0x4#64)
    (fun t => t.reg 3#5 == 0x800000000000000#64 && t.pc == 0x1004#64) = true := by decide +kernel

/-- V-S-47, SHLR32 Rn: R1=0x1234567800000000 gives R1=0x12345678. -/
theorem test_vector_S47 : after [0x4139#16] (start.setReg 1#5 0x1234567800000000#64)
    (fun t => t.reg 1#5 == 0x12345678#64 && t.pc == 0x1002#64) = true := by decide +kernel

/-- V-M-2, MOV.B @Rm, Rn: R2=0x2000, mem[0x2000..+1]=0x80 gives R1=0xFFFFFFFFFFFFFF80. -/
theorem test_vector_M2 : after [0x6120#16] { (start.setReg 2#5 0x2000#64) with mem := [(0x2000, 0x80#8)] }
    (fun t => t.reg 1#5 == 0xFFFFFFFFFFFFFF80#64 && t.pc == 0x1002#64) = true := by decide +kernel

/-- V-M-7, MOV.W Rm, @Rn: R1=0x2000, R2=0x12345678, backed 0x2000..+8 gives mem[0x2000..+2]=0x5678. -/
theorem test_vector_M7 : after [0x2121#16] ((start.setReg 1#5 0x2000#64).setReg 2#5 0x12345678#64)
    (fun t => memRead t.mem 0x2000 2 == some 0x5678 && t.pc == 0x1002#64) = true := by decide +kernel

/-- V-M-12, MOV.L @(Rm, disp4), Rn: R2=0x2000, mem[0x200C..+4]=0x80000000 gives R1=0xFFFFFFFF80000000; disp4=3,
scale 4. -/
theorem test_vector_M12 : after [0x5123#16] { (start.setReg 2#5 0x2000#64) with mem := [(0x200C, 0x00#8), (0x200D, 0x00#8), (0x200E, 0x00#8), (0x200F, 0x80#8)] }
    (fun t => t.reg 1#5 == 0xFFFFFFFF80000000#64 && t.pc == 0x1002#64) = true := by decide +kernel

/-- V-M-17, MOV.Q @Rm, Rn: R2=0x2002, R15=0x7000, VBR=0x8000, mem[0x2000..+16]=0x00000000000000000000000000000000
gives R1 not written, pc=0x8100, SPC=0x1000, SSR=0x80000000, SGR=0x7000, SR=0xF0000000, record {AddressError,
ia=0x1000, info=0x2002 read}; QWord at 2 mod 4. -/
theorem test_vector_M17 : after [0x6123#16] { { ((start.setReg 2#5 0x2002#64).setReg 15#5 0x7000#64) with vbr := 0x8000#64 } with mem := [(0x2000, 0x00#8), (0x2001, 0x00#8), (0x2002, 0x00#8), (0x2003, 0x00#8), (0x2004, 0x00#8), (0x2005, 0x00#8), (0x2006, 0x00#8), (0x2007, 0x00#8), (0x2008, 0x00#8), (0x2009, 0x00#8), (0x200A, 0x00#8), (0x200B, 0x00#8), (0x200C, 0x00#8), (0x200D, 0x00#8), (0x200E, 0x00#8), (0x200F, 0x00#8)] }
    (fun t => t.pc == 0x8100#64 && t.spc == 0x1000#64 && t.ssr == 0x80000000#32 && t.sgr == 0x7000#64 && t.sr == 0xF0000000#32 && (t.records.getLast?.map fun r => decide (r.cause = .addressError 0x2002#64 .read) && r.ia == 0x1000#64) == some true) = true := by decide +kernel

/-- V-M-23, MOV.L @(PC, disp8), Rn: ia=0x1002, mem[0x100C..+4]=0x80000001 gives R1=0xFFFFFFFF80000001; EA =
(0x1002+4 and not 3) + 8 = 0x100C. -/
theorem test_vector_M23 : after [0xD102#16] { start with pc := 0x1002#64, mem := [(0x100C, 0x01#8), (0x100D, 0x00#8), (0x100E, 0x00#8), (0x100F, 0x80#8)] }
    (fun t => t.reg 1#5 == 0xFFFFFFFF80000001#64 && t.pc == 0x1004#64) = true := by decide +kernel

/-- V-M-28, MOV.L Rm, @(Rn, Ro, disp4): R1=0x2000, R2=0xAABBCCDD, R3=0x3, backed 0x2000..+32 gives
mem[0x2014..+4]=0xAABBCCDD; EA = R1 + (R3+2)*4. -/
theorem test_vector_M28 : after [0x8E32#16, 0x0126#16] (((start.setReg 1#5 0x2000#64).setReg 2#5 0xAABBCCDD#64).setReg 3#5 0x3#64)
    (fun t => memRead t.mem 0x2014 4 == some 0xAABBCCDD && t.pc == 0x1004#64) = true := by decide +kernel

/-- V-M-33, MOVU.L @(Rm, disp6), Rn: R2=0x2000, mem[0x2044..+4]=0x80000000 gives R1=0x80000000; disp6=0x11, scale 4:
EA = R2+68. -/
theorem test_vector_M33 : after [0xCE11#16, 0x612E#16] { (start.setReg 2#5 0x2000#64) with mem := [(0x2044, 0x00#8), (0x2045, 0x00#8), (0x2046, 0x00#8), (0x2047, 0x80#8)] }
    (fun t => t.reg 1#5 == 0x80000000#64 && t.pc == 0x1004#64) = true := by decide +kernel

/-- V-M-38, MOV.Q @(SP, disp4), Rn: R15=0x2000, mem[0x2018..+8]=0x1122334455667788 gives R1=0x1122334455667788. -/
theorem test_vector_M38 : after [0xC413#16] { (start.setReg 15#5 0x2000#64) with mem := [(0x2018, 0x88#8), (0x2019, 0x77#8), (0x201A, 0x66#8), (0x201B, 0x55#8), (0x201C, 0x44#8), (0x201D, 0x33#8), (0x201E, 0x22#8), (0x201F, 0x11#8)] }
    (fun t => t.reg 1#5 == 0x1122334455667788#64 && t.pc == 0x1002#64) = true := by decide +kernel

/-- V-M-43, CAS.L R5, R4, @R0: R0=0x2000, R4=0x9, R5=0x7, mem[0x2000..+4]=0x00000007 gives
mem[0x2000..+4]=0x00000009, R4=0x7, T=1; old == R5: R4 stored, old returned in R4. -/
theorem test_vector_M43 : after [0x06F8#16] { (((start.setReg 0#5 0x2000#64).setReg 4#5 0x9#64).setReg 5#5 0x7#64) with mem := [(0x2000, 0x07#8), (0x2001, 0x00#8), (0x2002, 0x00#8), (0x2003, 0x00#8)] }
    (fun t => memRead t.mem 0x2000 4 == some 0x00000009 && t.reg 4#5 == 7#64 && t.flagT == true && t.pc == 0x1002#64) = true := by decide +kernel

/-- V-M-48, LEA.W @(Rm, disp8s), Rn: R2=0x100 gives R1=0xFE; LEA.W: R2 + (-1)*2. -/
theorem test_vector_M48 : after [0x8EFF#16, 0x6129#16] (start.setReg 2#5 0x100#64)
    (fun t => t.reg 1#5 == 0xFE#64 && t.pc == 0x1004#64) = true := by decide +kernel

/-- V-B-2, BF label8s: T=1 gives pc=0x1002; not taken. -/
theorem test_vector_B2 : after [0x8B02#16] { start with sr := 0x80000001#32 }
    (fun t => t.pc == 0x1002#64) = true := by decide +kernel

/-- V-B-7, BT label8s: T=0 gives pc=0x1002. -/
theorem test_vector_B7 : after [0x8902#16] start
    (fun t => t.pc == 0x1002#64) = true := by decide +kernel

/-- V-B-12, BRA label12s: - gives pc=0x1002, pending=(0x1000, 0x1000); label12s=-2: target is the BRA itself. -/
theorem test_vector_B12 : after [0xAFFE#16] start
    (fun t => t.pc == 0x1002#64 && t.pending == some ⟨0x1000#64, 0x1000#64⟩) = true := by decide +kernel

/-- V-B-17, BRA/N label16s: - gives pc=0x1010; 0x1000+6+10. -/
theorem test_vector_B17 : after [0x8E00#16, 0x8205#16] start
    (fun t => t.pc == 0x1010#64) = true := by decide +kernel

/-- V-B-22, JMP Rn: R1=0x3001 gives pending=(0x3001, 0x1000); odd target: AddressError at its fetch, after the slot. -/
theorem test_vector_B22 : after [0x412B#16] (start.setReg 1#5 0x3001#64)
    (fun t => t.pending == some ⟨0x3001#64, 0x1000#64⟩ && t.pc == 0x1002#64) = true := by decide +kernel

/-- V-Y-2, CLRS: S=1 gives S=0. -/
theorem test_vector_Y2 : after [0x0048#16] { start with sr := 0x80000002#32 }
    (fun t => t.flagS == false && t.pc == 0x1002#64) = true := by decide +kernel

/-- V-Y-7, LDC Rm, SR: R1=0xFFFFFFFFFFFFFFFF gives SR=0xF00093F3; write mask 0xF00093F3. -/
theorem test_vector_Y7 : after [0x410E#16] (start.setReg 1#5 0xFFFFFFFFFFFFFFFF#64)
    (fun t => t.sr == 0xF00093F3#32 && t.pc == 0x1002#64) = true := by decide +kernel

/-- V-Y-12, LDC Rm, SPC: R1=0x1122334455667788 gives SPC=0x1122334455667788. -/
theorem test_vector_Y12 : after [0x414E#16] (start.setReg 1#5 0x1122334455667788#64)
    (fun t => t.spc == 0x1122334455667788#64) = true := by decide +kernel

/-- V-Y-17, LDS Rm, FPUL: R1=0x112233443F800000 gives FPUL=0x3F800000. -/
theorem test_vector_Y17 : after [0x415A#16] (start.setReg 1#5 0x112233443F800000#64)
    (fun t => t.fpul == 0x3F800000#32 && t.pc == 0x1002#64) = true := by decide +kernel

/-- V-Y-22, NOP: - gives pc=0x1002. -/
theorem test_vector_Y22 : after [0x0009#16] start
    (fun t => t.pc == 0x1002#64) = true := by decide +kernel

/-- V-Y-27, SLEEP: - gives pc=0x1000, run ends Sleeping(0x1000). -/
theorem test_vector_Y27 : after [0x001B#16] start
    (fun t => t.pc == 0x1000#64) = true := by decide +kernel

/-- V-Y-32, STC.L GBR, @-Rn: R1=0x2000, GBR=0x1122334455667788, backed 0x1FFC..+4 gives R1=0x1FFC,
mem[0x1FFC..+4]=0x55667788; low 4 bytes of GBR. -/
theorem test_vector_Y32 : after [0x4113#16] { (start.setReg 1#5 0x2000#64) with gbr := 0x1122334455667788#64 }
    (fun t => t.reg 1#5 == 0x1FFC#64 && memRead t.mem 0x1FFC 4 == some 0x55667788 && t.pc == 0x1002#64) = true := by decide +kernel

/-- V-Y-37, STS FPSCR, Rn: FPSCR=0x180003 gives R1=0x180003. -/
theorem test_vector_Y37 : after [0x016A#16] { start with fpscr := 0x180003#32 }
    (fun t => t.reg 1#5 == 0x180003#64 && t.pc == 0x1002#64) = true := by decide +kernel

/-- V-F-2, FABS FRn / DRn: FR1=0xFFC00001, FPSCR=0x0 gives FR1=0x7FC00001; sign bit only; a NaN payload is kept. -/
theorem test_vector_F2 : after [0xF15D#16] { (start.setFrReg 1#4 0xFFC00001#32) with fpscr := 0x0#32 }
    (fun t => t.frReg 1#4 == 0x7FC00001#32 && t.pc == 0x1002#64) = true := by decide +kernel

/-- V-F-7, FCMPEQ FRm, FRn / DRm, DRn: FR1=0x7FC00000, FR2=0x7FC00000, FPSCR=0x0 gives T=0; NaN is unordered. -/
theorem test_vector_F7 : after [0xF124#16] { ((start.setFrReg 1#4 0x7FC00000#32).setFrReg 2#4 0x7FC00000#32) with fpscr := 0x0#32 }
    (fun t => t.flagT == false && t.pc == 0x1002#64) = true := by decide +kernel

/-- V-F-12, FDIV FRm, FRn / DRm, DRn: FR1=0x40C00000, FR2=0x40000000, FPSCR=0x0 gives FR1=0x40400000; 6.0 / 2.0. -/
theorem test_vector_F12 : after [0xF123#16] { ((start.setFrReg 1#4 0x40C00000#32).setFrReg 2#4 0x40000000#32) with fpscr := 0x0#32 }
    (fun t => t.frReg 1#4 == 0x40400000#32 && t.pc == 0x1002#64) = true := by decide +kernel

/-- V-F-17, FLOAT FPUL, FRn / DRn: FPUL=0xFFFFFFFE, FPSCR=0x0 gives FR1=0xC0000000; FPUL = -2. -/
theorem test_vector_F17 : after [0xF12D#16] { { start with fpul := 0xFFFFFFFE#32 } with fpscr := 0x0#32 }
    (fun t => t.frReg 1#4 == 0xC0000000#32 && t.pc == 0x1002#64) = true := by decide +kernel

/-- V-F-22, FMOV.S @Rm+, FRn / FMOV @Rm+, DRn: R2=0x2000, mem[0x2000..+4]=0x3F800000, FPSCR=0x0 gives
FR1=0x3F800000, R2=0x2004. -/
theorem test_vector_F22 : after [0xF129#16] { { (start.setReg 2#5 0x2000#64) with fpscr := 0x0#32 } with mem := [(0x2000, 0x00#8), (0x2001, 0x00#8), (0x2002, 0x80#8), (0x2003, 0x3F#8)] }
    (fun t => t.frReg 1#4 == 0x3F800000#32 && t.reg 2#5 == 0x2004#64 && t.pc == 0x1002#64) = true := by decide +kernel

/-- V-F-27, FMOV.S FRm, @-Rn / FMOV DRm, @-Rn: R1=0x2000, FR2=0x40490FDB, backed 0x1FFC..+4, FPSCR=0x0 gives
R1=0x1FFC, mem[0x1FFC..+4]=0x40490FDB. -/
theorem test_vector_F27 : after [0xF12B#16] { ((start.setReg 1#5 0x2000#64).setFrReg 2#4 0x40490FDB#32) with fpscr := 0x0#32 }
    (fun t => t.reg 1#5 == 0x1FFC#64 && memRead t.mem 0x1FFC 4 == some 0x40490FDB && t.pc == 0x1002#64) = true := by decide +kernel

/-- V-F-32, FSQRT FRn / DRn: FR1=0x40800000, FPSCR=0x0 gives FR1=0x40000000; sqrt 4.0. -/
theorem test_vector_F32 : after [0xF16D#16] { (start.setFrReg 1#4 0x40800000#32) with fpscr := 0x0#32 }
    (fun t => t.frReg 1#4 == 0x40000000#32 && t.pc == 0x1002#64) = true := by decide +kernel

/-- V-F-37, PSETMD4 #imm4: FPSCR=0x180003 gives FPSCR=0x3; imm4=0000: SZ, PR, FR cleared, others kept. -/
theorem test_vector_F37 : after [0xF0DD#16] { start with fpscr := 0x180003#32 }
    (fun t => t.fpscr == 3#32 && t.pc == 0x1002#64) = true := by decide +kernel

/-- V-F-42, LDHF16 #imm16, FPUL: FPSCR=0x0 gives FPUL=0xC0000000; half -2.0. -/
theorem test_vector_F42 : after [0x8EC0#16, 0x8A00#16] { start with fpscr := 0x0#32 }
    (fun t => t.fpul == 0xC0000000#32 && t.pc == 0x1004#64) = true := by decide +kernel

/-- V-F-49, LDIF16 #imm16, FPUL: FPSCR=0x0 gives FPUL=0x3F800000; imm16 = upper half of 1.0. -/
theorem test_vector_F49 : after [0x8E3F#16, 0x8C80#16] { start with fpscr := 0x0#32 }
    (fun t => t.fpul == 0x3F800000#32 && t.pc == 0x1004#64) = true := by decide +kernel

/-- V-F-54, STHF16 FPUL, Rn: FPUL=0x477FF000, FPSCR=0x0 gives R1=0x7C00; 65520: rounds up to Inf. -/
theorem test_vector_F54 : after [0x4161#16] { { start with fpul := 0x477FF000#32 } with fpscr := 0x0#32 }
    (fun t => t.reg 1#5 == 0x7C00#64 && t.pc == 0x1002#64) = true := by decide +kernel

end

end Sys2Proof.Tests
end

section
/-!
The MOV #imm and MOVT instructions (41_int_logic_move.md R191, R192): each is a write of one general register, so its
completion and frame are those of `runs_writeReg`; what is left to say is the value written. The decoder's side is the
round trip of the encoding.
-/
namespace Sys2Proof.Machine

/-! ## What each instruction executes -/

theorem exec_movImm8sRn (imm : BitVec 8) (n : BitVec 4) (s : State) :
    exec (.movImm8sRn imm n) s = writeReg .short (lo n) (signExt imm) s := rfl

theorem exec_movImm16sRn (imm : BitVec 16) (n : BitVec 4) (s : State) :
    exec (.movImm16sRn imm n) s = writeReg .long (lo n) (signExt imm) s := rfl

theorem exec_movImm16sRnHi (imm : BitVec 16) (n : BitVec 4) (s : State) :
    exec (.movImm16sRnHi imm n) s = writeReg .long (hi n) (signExt imm) s := rfl

theorem exec_movt (n : BitVec 4) (s : State) :
    exec (.movt n) s = writeReg .short (lo n) (BitVec.ofNat 64 s.flagT.toNat) s := rfl

/-! ## The values written -/

/-- An instruction that writes a sign-extended immediate leaves the immediate's own value, whichever of the three
encodings it has. -/
theorem runs_loadImmediate {w : Nat} {l : Len} {i : Instr} {s : State} {d : BitVec 5} {imm : BitVec w} (hw : w ≤ 64)
    (he : exec i s = writeReg l d (signExt imm) s) (hl : l = .long → s.pending = none) :
    Runs l i s [.reg d] fun t => (t.reg d).toInt = imm.toInt :=
  runs_writeReg (P := fun v => v.toInt = imm.toInt) he hl (signExt_toInt imm hw)

/-- A flag as the value of a register is 1 or 0. -/
theorem flagValue_toNat (b : Bool) : (BitVec.ofNat 64 b.toNat).toNat = if b = true then 1 else 0 := by
  cases b with
  | false => rfl
  | true => rfl

/-- MOVT leaves the value of SR.T in Rn, in a delay slot as well. -/
theorem runs_movt (n : BitVec 4) (s : State) :
    Runs .short (.movt n) s [.reg (lo n)] fun t => (t.reg (lo n)).toNat = if s.flagT = true then 1 else 0 :=
  runs_writeReg (P := fun v => v.toNat = if s.flagT = true then 1 else 0) (exec_movt n s) nofun
    (flagValue_toNat s.flagT)

/-- A round trip of an instruction's encoding says that its words decode to it. -/
theorem decodes_encode {i : Instr} (hwf : i.wellFormed = true) (h : Laws.EncodingRoundTrip.Statement i) :
    Decodes (encode i) i := h hwf

/-- Settles O27: the decoder's half is the round trip of each encoding, the other half the value each writes. -/
theorem loadImmediateAndMovtRun : Obligations.LoadImmediateAndMovtRun := by
  intro s
  refine ⟨fun imm n => ⟨?_, ?_⟩, fun imm n => ⟨?_, fun hslot => ?_⟩, fun imm n => ⟨?_, fun hslot => ?_⟩,
    fun n => ⟨?_, runs_movt n s⟩⟩
  · exact decodes_encode rfl (Laws.EncodingRoundTrip.movImm8sRn imm n)
  · exact runs_loadImmediate (by decide) (exec_movImm8sRn imm n s) nofun
  · exact decodes_encode rfl (Laws.EncodingRoundTrip.movImm16sRn imm n)
  · exact runs_loadImmediate (by decide) (exec_movImm16sRn imm n s) fun _ => hslot
  · exact decodes_encode rfl (Laws.EncodingRoundTrip.movImm16sRnHi imm n)
  · exact runs_loadImmediate (by decide) (exec_movImm16sRnHi imm n s) fun _ => hslot
  · exact decodes_encode rfl (Laws.EncodingRoundTrip.movt n)

end Sys2Proof.Machine
end

section
/-!
The instructions that move the halves of a QWord, ROT32, SHLL32 and SHLR32 (42_int_shift.md R221, R240, R247): each writes
one general register and takes no operation width, so what is left to say is the value written, bit by bit of each half.
-/
namespace Sys2Proof.Machine

/-! ## What each instruction executes -/

theorem exec_rot32 (n : BitVec 4) (s : State) :
    exec (.rot32 n) s = writeReg .short (lo n) (rotate32 (s.reg (lo n))) s := rfl

theorem exec_shll32 (n : BitVec 4) (s : State) :
    exec (.shll32 n) s = writeReg .short (lo n) (s.reg (lo n) <<< 32) s := rfl

theorem exec_shlr32 (n : BitVec 4) (s : State) :
    exec (.shlr32 n) s = writeReg .short (lo n) (s.reg (lo n) >>> 32) s := rfl

/-! ## The values written -/

/-- Bits 31:0 of `v` are those of `low` and bits 63:32 those of `high`, the form in which the three rules speak. -/
def HasHalves (v : QWord) (low high : Nat → Bool) : Prop :=
  ∀ i < 32, v.getLsbD i = low i ∧ v.getLsbD (i + 32) = high i

/-- A bit of the exchanged value comes from the half that was concatenated at its place. -/
theorem rotate32_bit (a : QWord) (i : Nat) :
    (rotate32 a).getLsbD i = if i < 32 then (a.extractLsb' 32 32).getLsbD i else (a.extractLsb' 0 32).getLsbD (i - 32) :=
  BitVec.getLsbD_append

theorem rotate32_halves (a : QWord) : HasHalves (rotate32 a) (fun i => a.getLsbD (i + 32)) a.getLsbD := by
  intro i hi
  simp [rotate32_bit, hi, Nat.add_comm]

theorem shiftLeft32_halves (a : QWord) : HasHalves (a <<< 32) (fun _ => false) a.getLsbD := by
  intro i hi
  have hhigh : i + 32 < 64 := by omega
  constructor
  · simp [hi]
  · rw [BitVec.getLsbD_shiftLeft]
    simp [hhigh]

theorem shiftRight32_halves (a : QWord) : HasHalves (a >>> 32) (fun i => a.getLsbD (i + 32)) (fun _ => false) := by
  intro i _
  have hout : a.getLsbD (32 + (i + 32)) = false := BitVec.getLsbD_of_ge a _ (by omega)
  constructor
  · simp [Nat.add_comm]
  · simp [hout]

/-- A 16-bit instruction that writes one register leaves the halves of the value there, in a delay slot as well. -/
theorem runs_writeReg_halves {i : Instr} {s : State} {d : BitVec 5} {v : QWord} {low high : Nat → Bool}
    (he : exec i s = writeReg .short d v s) (hv : HasHalves v low high) :
    Runs .short i s [.reg d] fun t => HasHalves (t.reg d) low high :=
  runs_writeReg (P := fun v => HasHalves v low high) he nofun hv

/-- Settles O33: the decoder's half is the round trip of each encoding, the other half the two halves each writes. -/
theorem fixed64BitShiftsRun : Obligations.Fixed64BitShiftsRun := by
  intro s n
  refine ⟨?_, ?_, ?_, ?_, ?_, ?_⟩
  · exact decodes_encode rfl (Laws.EncodingRoundTrip.rot32 n)
  · exact runs_writeReg_halves (exec_rot32 n s) (rotate32_halves (s.reg (lo n)))
  · exact decodes_encode rfl (Laws.EncodingRoundTrip.shll32 n)
  · exact runs_writeReg_halves (exec_shll32 n s) (shiftLeft32_halves (s.reg (lo n)))
  · exact decodes_encode rfl (Laws.EncodingRoundTrip.shlr32 n)
  · exact runs_writeReg_halves (exec_shlr32 n s) (shiftRight32_halves (s.reg (lo n)))

end Sys2Proof.Machine
end

section
/-!
The instructions that set and clear flags, NOP, and TRAPA, BRK, SLEEP and LDTLB (45_int_system.md R330 to R348): the first
advance from a state with one or two parts written, the others take an exception, stop the machine, or are refused.
-/
namespace Sys2Proof.Machine

/-! ## What each instruction executes -/

theorem exec_sett (s : State) : exec .sett s = writeT .short true s := rfl

theorem exec_clrt (s : State) : exec .clrt s = writeT .short false s := rfl

theorem exec_sets (s : State) : exec .sets s = .next ((s.setS true).retire .short) := rfl

theorem exec_clrs (s : State) : exec .clrs s = .next ((s.setS false).retire .short) := rfl

theorem exec_clrmac (s : State) : exec .clrmac s = .next ({ s with mach := 0#32, macl := 0#32 }.retire .short) := rfl

theorem exec_nop (s : State) : exec .nop s = .next (s.retire .short) := rfl

theorem exec_nopImm (imm : BitVec 4) (s : State) : exec (.nopImm imm) s = .next (s.retire .short) := rfl

theorem exec_trapa (imm : BitVec 8) (s : State) : exec (.trapa imm) s = notInSlot s (raise (.trap imm) s) := rfl

theorem exec_brk (s : State) : exec .brk s =
    .next { s with records := s.records ++ [s.excRecord .breakpoint s.instAt], runEnded := true } := rfl

theorem exec_sleep (s : State) : exec .sleep s = .next { s with sleeping := true } := rfl

theorem exec_ldtlb (s : State) : exec .ldtlb s = .refused (.ldtlb s.pc) := rfl

/-! ## Flags, MAC and NOP -/

theorem runs_sett (s : State) : Runs .short .sett s [.t] fun t => t.flagT = true :=
  runs_writeT (P := (· = true)) (exec_sett s) nofun rfl

theorem runs_clrt (s : State) : Runs .short .clrt s [.t] fun t => t.flagT = false :=
  runs_writeT (P := (· = false)) (exec_clrt s) nofun rfl

/-- An instruction that writes SR.S completes. -/
theorem runs_setS {l : Len} {i : Instr} {s : State} {b : Bool} (he : exec i s = .next ((s.setS b).retire l)) :
    Runs l i s [.s] fun t => t.flagS = b :=
  runs_next he (by simp) (keeps_setS s b) rfl rfl

theorem runs_clrmac (s : State) : Runs .short .clrmac s [.mach, .macl] fun t => t.mach = 0#32 ∧ t.macl = 0#32 :=
  runs_next (exec_clrmac s) (by simp) ((keeps_mach s 0#32).trans (keeps_macl _ 0#32)) rfl rfl

/-- An instruction that only advances completes and changes nothing. -/
theorem runs_retire {l : Len} {i : Instr} {s : State} (he : exec i s = .next (s.retire l)) :
    Runs l i s [] fun _ => True :=
  runs_next he trivial (State.KeepsBut.refl s []) rfl rfl

/-! ## The words of the encodings -/

/-- Words that are the encoding of an instruction decode to it. -/
theorem decodes_of_encode_eq {i : Instr} {ws : List Word} (he : encode i = ws) (hwf : i.wellFormed = true)
    (h : Laws.EncodingRoundTrip.Statement i) : Decodes ws i :=
  he ▸ decodes_encode hwf h

/-- A 16-bit word that no row lists is rejected, whatever follows it. -/
theorem decode_word_unlisted {a b c d : Nibble} (rest : List Byte) (hp : isPrefix (word a b c d) = false)
    (h : decode16 a b c d = none) :
    decode (wordsBytes [word a b c d] ++ rest) = .rejected (.unlisted16 (word a b c d)) := by
  simp [wordsBytes, wordBytes, decode, hp, decodeWord, h]

/-- NOP #imm is well formed for the immediates that R339 admits, 1 to 14. -/
theorem nopImm_wellFormed {imm : BitVec 4} (h0 : imm ≠ 0#4) (h15 : imm ≠ 15#4) :
    (Instr.nopImm imm).wellFormed = true := by
  simp [Instr.wellFormed, h0, h15]

/-- 0F09 would be NOP #15, which R339 does not admit. -/
theorem decode_0F09_rejected (rest : List Byte) :
    decode (wordsBytes [0x0F09#16] ++ rest) = .rejected (.unlisted16 0x0F09#16) :=
  decode_word_unlisted (a := 0x0#4) (b := 0xF#4) (c := 0x0#4) (d := 0x9#4) rest (by decide) (by decide)

/-- Settles O47: each instruction's effect is the part it writes, each word the encoding that the round trip reads
back, and 0F09 is listed by no row. -/
theorem flagInstructionsRun : Obligations.FlagInstructionsRun := by
  refine ⟨fun s => ⟨runs_sett s, runs_clrt s, runs_setS (exec_sets s), runs_setS (exec_clrs s), runs_clrmac s,
    runs_retire (exec_nop s), fun i => runs_retire (exec_nopImm i s)⟩, ?_, ?_, ?_, ?_, ?_, ?_, fun i h0 h15 => ?_,
    decode_0F09_rejected⟩
  · exact decodes_of_encode_eq (by decide) rfl Laws.EncodingRoundTrip.sett
  · exact decodes_of_encode_eq (by decide) rfl Laws.EncodingRoundTrip.clrt
  · exact decodes_of_encode_eq (by decide) rfl Laws.EncodingRoundTrip.sets
  · exact decodes_of_encode_eq (by decide) rfl Laws.EncodingRoundTrip.clrs
  · exact decodes_of_encode_eq (by decide) rfl Laws.EncodingRoundTrip.clrmac
  · exact decodes_of_encode_eq (by decide) rfl Laws.EncodingRoundTrip.nop
  · exact decodes_encode (nopImm_wellFormed h0 h15) (Laws.EncodingRoundTrip.nopImm i)

/-! ## Exceptions and stops -/

/-- Trap entry from an instruction that raises Trap: SPC receives the address after it, PC the handler's (R434). -/
theorem raise_trap_enters {imm : BitVec 8} {s : State} (h : s.launch.trapEntry = .vector) :
    ∃ t, raise (.trap imm) s = .next t ∧ t.spc = s.pc + 2#64 ∧ t.pc = s.vbr + s.launch.vecGeneral :=
  ⟨_, raiseWith_vector nofun h, rfl, rfl⟩

/-- Outside a delay slot TRAPA takes the exception Trap. -/
theorem exec_trapa_next {imm : BitVec 8} {s : State} (h : s.pending = none) :
    exec (.trapa imm) s = raise (.trap imm) s :=
  (exec_trapa imm s).trans (notInSlot_next h)

/-- The end of a run leaves all but the records and the mark of the end (R437). -/
theorem keeps_endRun (s : State) (rs : List ExcRecord) :
    s.KeepsBut { s with records := rs, runEnded := true } [.records, .runEnded] := by
  intro p hp
  cases p with
  | records => simp at hp
  | runEnded => simp at hp
  | _ => rfl

/-- Settles O48: TRAPA is the exception of `raise` and its entry, BRK and SLEEP each write their own parts alone, LDTLB
is refused by its definition. -/
theorem trapBreakSleepAndTlb : Obligations.TrapBreakSleepAndTlb := by
  intro s
  refine ⟨fun k hslot => ⟨exec_trapa_next hslot, fun hvector => ?_⟩, ?_, ?_, exec_ldtlb s⟩
  · rw [exec_trapa_next hslot]
    exact raise_trap_enters hvector
  · exact ⟨_, exec_brk s, rfl, rfl, rfl, ⟨_, rfl, rfl, rfl⟩, keeps_endRun s _⟩
  · exact ⟨_, exec_sleep s, rfl, rfl, rfl, keeps_sleeping s⟩

end Sys2Proof.Machine
end

section
/-!
The instruction that loads a 16-bit immediate into the high half of FPUL, LDIF16 (46_fpu.md R396): with an FPU present and
outside a delay slot it writes FPUL alone, so what is left to say is the value written there.
-/
namespace Sys2Proof.Machine

theorem exec_ldif16 (imm : BitVec 16) (s : State) : exec (.ldif16 imm) s =
    inForm .long s (fpuGuard s (.next ({ s with fpul := imm ++ 0#16 }.retire .long))) := rfl

/-- With an FPU present and outside a delay slot, neither check of LDIF16 stops it. -/
theorem exec_ldif16_next {s : State} (imm : BitVec 16) (hfpu : s.FpuPresent) (hslot : s.pending = none) :
    exec (.ldif16 imm) s = .next ({ s with fpul := imm ++ 0#16 }.retire .long) := by
  rw [exec_ldif16, inForm_next fun _ => hslot, fpuGuard_next hfpu]

/-- A value above `k` bits of zeroes is that value scaled by `2 ^ k`. -/
theorem append_zeroes_toNat {w : Nat} (v : BitVec w) (k : Nat) : (v ++ 0#k).toNat = v.toNat * 2 ^ k := by
  rw [BitVec.toNat_append, BitVec.toNat_ofNat, Nat.zero_mod, Nat.or_zero, Nat.shiftLeft_eq]

/-- An instruction that writes FPUL completes, and leaves there the value written. -/
theorem runs_writeFpul {l : Len} {i : Instr} {s : State} {v : DWord} {P : DWord → Prop}
    (he : exec i s = .next ({ s with fpul := v }.retire l)) (hv : P v) : Runs l i s [.fpul] fun t => P t.fpul :=
  runs_next he (by simpa using hv) (keeps_fpul s v) rfl rfl

/-- Settles O59: the decoder's half is the round trip of the encoding, the other half the value written to FPUL. -/
theorem loadHighImmediateRuns : Obligations.LoadHighImmediateRuns := by
  intro s imm hfpu
  refine ⟨?_, fun hslot => ?_⟩
  · exact decodes_encode rfl (Laws.EncodingRoundTrip.ldif16 imm)
  · exact runs_writeFpul (P := fun v => v.toNat = imm.toNat * 2 ^ 16) (exec_ldif16_next imm hfpu hslot)
      (append_zeroes_toNat imm 16)

end Sys2Proof.Machine
end

section
/-!
The compare-and-swap instruction, CAS.L (43_int_loadstore.md R260, 60_exceptions.md R433): the DWord at R0 is read and
compared with the low half of R5, and both ways of completing write T and R4; only an equal compare stores. What is left to
say is when each of the two comes about, which write check stands before it, and what each leaves.
-/
namespace Sys2Proof.Machine

theorem exec_casL (s : State) : exec .casL s = execCasL s := rfl

/-- The machine's compare of DWords is the spec's compare of the two values read as signed 32-bit integers. -/
theorem ofNat_eq_lowDword_iff (v : Nat) (a : QWord) :
    BitVec.ofNat 32 v = lowDword a ↔ (v : Int).bmod (2 ^ 32) = signedLow 32 a := by
  rw [lowDword, ← low32_toInt, ← BitVec.toInt_ofNat', BitVec.toInt_inj]

/-! ## The two outcomes of the compare -/

/-- CAS.L that reads a DWord equal to the low half of R5, where the write is not refused before the read: the store, then T
and R4. -/
theorem exec_casL_equal {s : State} {v : Nat}
    (hc : s.launch.casCheck = .whenEqual ∨ s.accessOk .write (s.reg 0#5) 4 = true) (hv : s.Loads (s.reg 0#5) 4 v)
    (he : (v : Int).bmod (2 ^ 32) = signedLow 32 (s.reg 5#5)) :
    exec .casL s = store (s.reg 0#5) 4 (s.reg 4#5).toNat s fun t =>
      .next (((t.setT true).setReg 4#5 (loadSigned .l v)).retire .short) := by
  rw [exec_casL, execCasL_swap hc, load_next hv, if_pos ((ofNat_eq_lowDword_iff v _).mpr he)]

/-- CAS.L that reads a DWord other than the low half of R5, under the same proviso: T and R4 alone. -/
theorem exec_casL_differs {s : State} {v : Nat}
    (hc : s.launch.casCheck = .whenEqual ∨ s.accessOk .write (s.reg 0#5) 4 = true) (hv : s.Loads (s.reg 0#5) 4 v)
    (hne : (v : Int).bmod (2 ^ 32) ≠ signedLow 32 (s.reg 5#5)) :
    exec .casL s = .next (((s.setT false).setReg 4#5 (loadSigned .l v)).retire .short) := by
  rw [exec_casL, execCasL_swap hc, load_next hv, if_neg (mt (ofNat_eq_lowDword_iff v _).mp hne)]

/-- An equal compare whose write is refused: under `always` the check before the read refuses it, under `whenEqual` the
store does. -/
theorem exec_casL_equal_raises {s : State} {v : Nat} (hv : s.Loads (s.reg 0#5) 4 v)
    (he : (v : Int).bmod (2 ^ 32) = signedLow 32 (s.reg 5#5)) (hw : s.accessOk .write (s.reg 0#5) 4 = false) :
    exec .casL s = raise (.addressError (s.reg 0#5) .write) s := by
  cases hc : s.launch.casCheck with
  | always => exact execCasL_refused.2 hc hv.1 hw
  | whenEqual => exact (exec_casL_equal (.inl hc) hv he).trans (store_raises hw)

/-! ## Completion -/

/-- CAS.L that ends by writing T and R4 in a state `u`, which is the first one or the one after the store: memory is as `u`
has it, and what `u` changed, T and R4 are all that changes. -/
theorem runs_casL {s u : State} {b : Bool} {v : Nat} {changed : List Part}
    (he : exec .casL s = .next (((u.setT b).setReg 4#5 (loadSigned .l v)).retire .short))
    (hk : s.KeepsBut u changed) (hpc : u.pc = s.pc) (hpe : u.pending = s.pending) :
    Runs .short .casL s ([.reg 4#5, .t] ++ changed) fun t =>
      t.mem = u.mem ∧ t.launch = u.launch ∧ t.flagT = b ∧ (t.reg 4#5).toInt = (v : Int).bmod (2 ^ 32) := by
  refine runs_next he ⟨by simp, by simp, by simp, ?_⟩ ?_ hpc hpe
  · rw [State.reg_retire, State.reg_setReg_self]
    exact loadSigned_toInt .l v
  · exact ((hk.trans (keeps_setT u b)).trans (keeps_setReg _ 4#5 _)).mono (by simp)

/-- Settles O41: the refusals are those of the checks before the read and of the store, and either outcome of the compare
ends by writing T and R4, after the store when the DWords are equal. -/
theorem compareAndSwapRuns : Obligations.CompareAndSwapRuns := by
  intro s
  obtain ⟨hread, hboth⟩ := execCasL_refused (s := s)
  refine ⟨hread, hboth, fun v hv => ⟨fun he hw => ?_, exec_casL_equal_raises hv, fun hne hc => ?_⟩⟩
  · have hx := (exec_casL_equal (.inr hw) hv he).trans (store_next hw)
    refine (runs_casL hx (keeps_writeMem s _ 4 _) rfl rfl).mono (List.Subset.refl _) ?_
    rintro t ⟨hmem, hlaunch, hT, hR4⟩
    exact ⟨(holds_writeMem s _ 4 _).of_mem hmem hlaunch, hT, hR4⟩
  · refine (runs_casL (exec_casL_differs hc hv hne) (State.KeepsBut.refl s []) rfl rfl).mono (by simp) ?_
    rintro t ⟨-, -, hT, hR4⟩
    exact ⟨hT, hR4⟩

end Sys2Proof.Machine
end

section
/-!
The decoder against the encoder (30_encoding.md R90 to R114). One direction collects the round trips of the single
instructions. The other goes down the decoder's tables: every answer of a table is well formed and its words are those
that the table stands for, so that no bit of a word is left unread.
-/
namespace Sys2Proof

open Laws in
/-- Settles O1: each constructor has its round trip. -/
theorem decodeReadsEncoding : Obligations.DecodeReadsEncoding
  | .addRmRn m n => EncodingRoundTrip.addRmRn m n
  | .addRmRnCe q m n => EncodingRoundTrip.addRmRnCe q m n
  | .addImm8sRn imm n => EncodingRoundTrip.addImm8sRn imm n
  | .addImm16sRn imm n => EncodingRoundTrip.addImm16sRn imm n
  | .addImm16sRnHi imm n => EncodingRoundTrip.addImm16sRnHi imm n
  | .addRmImm8Rn m imm n => EncodingRoundTrip.addRmImm8Rn m imm n
  | .addRmImm6Rn m imm n => EncodingRoundTrip.addRmImm6Rn m imm n
  | .addRmRoRn q m o n => EncodingRoundTrip.addRmRoRn q m o n
  | .addcRmRn m n => EncodingRoundTrip.addcRmRn m n
  | .addcRmRnCe q m n => EncodingRoundTrip.addcRmRnCe q m n
  | .addv q m n => EncodingRoundTrip.addv q m n
  | .cmpEqRmRn m n => EncodingRoundTrip.cmpEqRmRn m n
  | .cmpEqRmRnCe q m n => EncodingRoundTrip.cmpEqRmRnCe q m n
  | .cmpEqImm8sR0 imm => EncodingRoundTrip.cmpEqImm8sR0 imm
  | .cmpEqImm12sRn imm n => EncodingRoundTrip.cmpEqImm12sRn imm n
  | .cmpEqImm10sRn q imm n => EncodingRoundTrip.cmpEqImm10sRn q imm n
  | .cmpGeImm12sRn imm n => EncodingRoundTrip.cmpGeImm12sRn imm n
  | .cmpGeImm10sRn q imm n => EncodingRoundTrip.cmpGeImm10sRn q imm n
  | .cmpGeRmRn q m n => EncodingRoundTrip.cmpGeRmRn q m n
  | .cmpGtRmRn m n => EncodingRoundTrip.cmpGtRmRn m n
  | .cmpGtImm12sRn imm n => EncodingRoundTrip.cmpGtImm12sRn imm n
  | .cmpGtImm10sRn q imm n => EncodingRoundTrip.cmpGtImm10sRn q imm n
  | .cmpGtRmRnCe q m n => EncodingRoundTrip.cmpGtRmRnCe q m n
  | .cmpHiRmRn m n => EncodingRoundTrip.cmpHiRmRn m n
  | .cmpHiImm12sRn imm n => EncodingRoundTrip.cmpHiImm12sRn imm n
  | .cmpHiRmRnCe q m n => EncodingRoundTrip.cmpHiRmRnCe q m n
  | .cmpHiImm10sRn q imm n => EncodingRoundTrip.cmpHiImm10sRn q imm n
  | .cmpHsImm12sRn imm n => EncodingRoundTrip.cmpHsImm12sRn imm n
  | .cmpHsRmRn q m n => EncodingRoundTrip.cmpHsRmRn q m n
  | .cmpHsImm10sRn q imm n => EncodingRoundTrip.cmpHsImm10sRn q imm n
  | .cmpPl n => EncodingRoundTrip.cmpPl n
  | .cmpPz n => EncodingRoundTrip.cmpPz n
  | .div0s => EncodingRoundTrip.div0s
  | .div0u => EncodingRoundTrip.div0u
  | .div1 => EncodingRoundTrip.div1
  | .dmulsL m n => EncodingRoundTrip.dmulsL m n
  | .dmuluL m n => EncodingRoundTrip.dmuluL m n
  | .dt n => EncodingRoundTrip.dt n
  | .ldsh16zImm16Rn imm n => EncodingRoundTrip.ldsh16zImm16Rn imm n
  | .ldsh16zImm16RnHi imm n => EncodingRoundTrip.ldsh16zImm16RnHi imm n
  | .mulRmImm8Rn m imm n => EncodingRoundTrip.mulRmImm8Rn m imm n
  | .mulRmNegImm8Rn m imm n => EncodingRoundTrip.mulRmNegImm8Rn m imm n
  | .mulRmImm6Rn m imm n => EncodingRoundTrip.mulRmImm6Rn m imm n
  | .mulRmNegImm6Rn m imm n => EncodingRoundTrip.mulRmNegImm6Rn m imm n
  | .mulRmRoRn q m o n => EncodingRoundTrip.mulRmRoRn q m o n
  | .mulLRmRn m n => EncodingRoundTrip.mulLRmRn m n
  | .mulLRmRnCe m n => EncodingRoundTrip.mulLRmRnCe m n
  | .mulsW m n => EncodingRoundTrip.mulsW m n
  | .muluW m n => EncodingRoundTrip.muluW m n
  | .negRmRn m n => EncodingRoundTrip.negRmRn m n
  | .negRmRnCe q m n => EncodingRoundTrip.negRmRnCe q m n
  | .negcRmRn m n => EncodingRoundTrip.negcRmRn m n
  | .negcRmRnCe q m n => EncodingRoundTrip.negcRmRnCe q m n
  | .subRmRn m n => EncodingRoundTrip.subRmRn m n
  | .subRmRnCe q m n => EncodingRoundTrip.subRmRnCe q m n
  | .subRmImm8Rn m imm n => EncodingRoundTrip.subRmImm8Rn m imm n
  | .subRmImm6Rn m imm n => EncodingRoundTrip.subRmImm6Rn m imm n
  | .subRmRoRn q m o n => EncodingRoundTrip.subRmRoRn q m o n
  | .subc m n => EncodingRoundTrip.subc m n
  | .subv q m n => EncodingRoundTrip.subv q m n
  | .andRmRn m n => EncodingRoundTrip.andRmRn m n
  | .andImm8R0 imm => EncodingRoundTrip.andImm8R0 imm
  | .andImm12sRn imm n => EncodingRoundTrip.andImm12sRn imm n
  | .andRmImm8Rn m imm n => EncodingRoundTrip.andRmImm8Rn m imm n
  | .andRmImm6Rn m imm n => EncodingRoundTrip.andRmImm6Rn m imm n
  | .andRmNegImm8Rn m imm n => EncodingRoundTrip.andRmNegImm8Rn m imm n
  | .andRmNegImm6Rn m imm n => EncodingRoundTrip.andRmNegImm6Rn m imm n
  | .andRmRoRn q m o n => EncodingRoundTrip.andRmRoRn q m o n
  | .cselt m o n => EncodingRoundTrip.cselt m o n
  | .extsBRn n => EncodingRoundTrip.extsBRn n
  | .extsBRmRn m n => EncodingRoundTrip.extsBRmRn m n
  | .extsBRmRnCe m n => EncodingRoundTrip.extsBRmRnCe m n
  | .extsL n => EncodingRoundTrip.extsL n
  | .extsWRn n => EncodingRoundTrip.extsWRn n
  | .extsWRmRn m n => EncodingRoundTrip.extsWRmRn m n
  | .extsWRmRnCe m n => EncodingRoundTrip.extsWRmRnCe m n
  | .extuBRn n => EncodingRoundTrip.extuBRn n
  | .extuBRmRn m n => EncodingRoundTrip.extuBRmRn m n
  | .extuBRmRnCe m n => EncodingRoundTrip.extuBRmRnCe m n
  | .extuLRn n => EncodingRoundTrip.extuLRn n
  | .extuLRmRn m n => EncodingRoundTrip.extuLRmRn m n
  | .extuWRn n => EncodingRoundTrip.extuWRn n
  | .extuWRmRn m n => EncodingRoundTrip.extuWRmRn m n
  | .extuWRmRnCe m n => EncodingRoundTrip.extuWRmRnCe m n
  | .movRmRn m n => EncodingRoundTrip.movRmRn m n
  | .movRmRnCe m n => EncodingRoundTrip.movRmRnCe m n
  | .movImm8sRn imm n => EncodingRoundTrip.movImm8sRn imm n
  | .movImm16sRn imm n => EncodingRoundTrip.movImm16sRn imm n
  | .movImm16sRnHi imm n => EncodingRoundTrip.movImm16sRnHi imm n
  | .movt n => EncodingRoundTrip.movt n
  | .notRmRn m n => EncodingRoundTrip.notRmRn m n
  | .notRmRnCe q m n => EncodingRoundTrip.notRmRnCe q m n
  | .orRmRn m n => EncodingRoundTrip.orRmRn m n
  | .orRmRnCe q m n => EncodingRoundTrip.orRmRnCe q m n
  | .orImm8R0 imm => EncodingRoundTrip.orImm8R0 imm
  | .orImm12sRn imm n => EncodingRoundTrip.orImm12sRn imm n
  | .orRmImm8Rn m imm n => EncodingRoundTrip.orRmImm8Rn m imm n
  | .orRmImm6Rn m imm n => EncodingRoundTrip.orRmImm6Rn m imm n
  | .orRmRoRn q m o n => EncodingRoundTrip.orRmRoRn q m o n
  | .swapBRn n => EncodingRoundTrip.swapBRn n
  | .swapBRmRn m n => EncodingRoundTrip.swapBRmRn m n
  | .swapWRn n => EncodingRoundTrip.swapWRn n
  | .swapWRmRn m n => EncodingRoundTrip.swapWRmRn m n
  | .tstRmRn m n => EncodingRoundTrip.tstRmRn m n
  | .tstRmRnCe q m n => EncodingRoundTrip.tstRmRnCe q m n
  | .tstImm8R0 imm => EncodingRoundTrip.tstImm8R0 imm
  | .tstImm12sRn imm n => EncodingRoundTrip.tstImm12sRn imm n
  | .tstImm10sRn q imm n => EncodingRoundTrip.tstImm10sRn q imm n
  | .xorRmRn m n => EncodingRoundTrip.xorRmRn m n
  | .xorRmRnCe q m n => EncodingRoundTrip.xorRmRnCe q m n
  | .xorImm8R0 imm => EncodingRoundTrip.xorImm8R0 imm
  | .xorImm12sRn imm n => EncodingRoundTrip.xorImm12sRn imm n
  | .xorImm10sRn q imm n => EncodingRoundTrip.xorImm10sRn q imm n
  | .xorRmImm8Rn m imm n => EncodingRoundTrip.xorRmImm8Rn m imm n
  | .xorRmImm6Rn m imm n => EncodingRoundTrip.xorRmImm6Rn m imm n
  | .xorRmRoRn q m o n => EncodingRoundTrip.xorRmRoRn q m o n
  | .xtrctR4R0 => EncodingRoundTrip.xtrctR4R0
  | .xtrctR0R4 => EncodingRoundTrip.xtrctR0R4
  | .rot32 n => EncodingRoundTrip.rot32 n
  | .rotcl n => EncodingRoundTrip.rotcl n
  | .rotcr n => EncodingRoundTrip.rotcr n
  | .rotl n => EncodingRoundTrip.rotl n
  | .rotr n => EncodingRoundTrip.rotr n
  | .shadRmRn m n => EncodingRoundTrip.shadRmRn m n
  | .shadRmRnCe q m n => EncodingRoundTrip.shadRmRnCe q m n
  | .shadRmImmRn m imm n => EncodingRoundTrip.shadRmImmRn m imm n
  | .shadRmRoRn q m o n => EncodingRoundTrip.shadRmRoRn q m o n
  | .shadL m imm n => EncodingRoundTrip.shadL m imm n
  | .shal n => EncodingRoundTrip.shal n
  | .shalQ m imm n => EncodingRoundTrip.shalQ m imm n
  | .sharRn n => EncodingRoundTrip.sharRn n
  | .sharQ m imm n => EncodingRoundTrip.sharQ m imm n
  | .sharRmRoRn q m o n => EncodingRoundTrip.sharRmRoRn q m o n
  | .shldRmRn m n => EncodingRoundTrip.shldRmRn m n
  | .shldRmImm8Rn m imm n => EncodingRoundTrip.shldRmImm8Rn m imm n
  | .shldRmImm6Rn m imm n => EncodingRoundTrip.shldRmImm6Rn m imm n
  | .shldRmRoRn q m o n => EncodingRoundTrip.shldRmRoRn q m o n
  | .shll n => EncodingRoundTrip.shll n
  | .shll2 n => EncodingRoundTrip.shll2 n
  | .shll4 n => EncodingRoundTrip.shll4 n
  | .shll8 n => EncodingRoundTrip.shll8 n
  | .shll16 n => EncodingRoundTrip.shll16 n
  | .shll32 n => EncodingRoundTrip.shll32 n
  | .shlrRn n => EncodingRoundTrip.shlrRn n
  | .shlrQ m imm n => EncodingRoundTrip.shlrQ m imm n
  | .shlrRmRoRn q m o n => EncodingRoundTrip.shlrRmRoRn q m o n
  | .shlr2 n => EncodingRoundTrip.shlr2 n
  | .shlr4 n => EncodingRoundTrip.shlr4 n
  | .shlr8 n => EncodingRoundTrip.shlr8 n
  | .shlr16 n => EncodingRoundTrip.shlr16 n
  | .shlr32 n => EncodingRoundTrip.shlr32 n
  | .casL => EncodingRoundTrip.casL
  | .leaBAtPcR0Rn n => EncodingRoundTrip.leaBAtPcR0Rn n
  | .leaBAtRmRoDisp4Rn m o disp n => EncodingRoundTrip.leaBAtRmRoDisp4Rn m o disp n
  | .leaBAtRmDisp8sRn m disp n => EncodingRoundTrip.leaBAtRmDisp8sRn m disp n
  | .leaBAtRmRoRn m o n => EncodingRoundTrip.leaBAtRmRoRn m o n
  | .leaBAtRmDisp6Rn m disp n => EncodingRoundTrip.leaBAtRmDisp6Rn m disp n
  | .leaWAtRmRoDisp4Rn m o disp n => EncodingRoundTrip.leaWAtRmRoDisp4Rn m o disp n
  | .leaWAtRmDisp8sRn m disp n => EncodingRoundTrip.leaWAtRmDisp8sRn m disp n
  | .leaWAtRmRoRn m o n => EncodingRoundTrip.leaWAtRmRoRn m o n
  | .leaWAtRmDisp6Rn m disp n => EncodingRoundTrip.leaWAtRmDisp6Rn m disp n
  | .leaLAtRmRoDisp4Rn m o disp n => EncodingRoundTrip.leaLAtRmRoDisp4Rn m o disp n
  | .leaLAtRmDisp8sRn m disp n => EncodingRoundTrip.leaLAtRmDisp8sRn m disp n
  | .leaLAtRmRoRn m o n => EncodingRoundTrip.leaLAtRmRoRn m o n
  | .leaLAtRmDisp6Rn m disp n => EncodingRoundTrip.leaLAtRmDisp6Rn m disp n
  | .leaQAtRmRoDisp4Rn m o disp n => EncodingRoundTrip.leaQAtRmRoDisp4Rn m o disp n
  | .leaQAtRmDisp8sRn m disp n => EncodingRoundTrip.leaQAtRmDisp8sRn m disp n
  | .leaQAtRmRoRn m o n => EncodingRoundTrip.leaQAtRmRoRn m o n
  | .leaQAtRmDisp6Rn m disp n => EncodingRoundTrip.leaQAtRmDisp6Rn m disp n
  | .movBRmAtR0Rn m n => EncodingRoundTrip.movBRmAtR0Rn m n
  | .movBRmAtRn m n => EncodingRoundTrip.movBRmAtRn m n
  | .movBRmDecRn m n => EncodingRoundTrip.movBRmDecRn m n
  | .movBAtR0RmRn m n => EncodingRoundTrip.movBAtR0RmRn m n
  | .movBAtRmRn m n => EncodingRoundTrip.movBAtRmRn m n
  | .movBIncRmRn m n => EncodingRoundTrip.movBIncRmRn m n
  | .movBRmAtPcR0 m => EncodingRoundTrip.movBRmAtPcR0 m
  | .movBAtPcR0Rn n => EncodingRoundTrip.movBAtPcR0Rn n
  | .movBRmAtRnRoDisp4 m n o disp => EncodingRoundTrip.movBRmAtRnRoDisp4 m n o disp
  | .movBRmAtRnDisp8s m n disp => EncodingRoundTrip.movBRmAtRnDisp8s m n disp
  | .movBAtRmRoDisp4Rn m o disp n => EncodingRoundTrip.movBAtRmRoDisp4Rn m o disp n
  | .movBAtRmDisp8sRn m disp n => EncodingRoundTrip.movBAtRmDisp8sRn m disp n
  | .movBRmAtRnRo m n o => EncodingRoundTrip.movBRmAtRnRo m n o
  | .movBRmAtRnDisp6 m n disp => EncodingRoundTrip.movBRmAtRnDisp6 m n disp
  | .movBAtRmRoRn m o n => EncodingRoundTrip.movBAtRmRoRn m o n
  | .movBAtRmDisp6Rn m disp n => EncodingRoundTrip.movBAtRmDisp6Rn m disp n
  | .movLRmAtR0Rn m n => EncodingRoundTrip.movLRmAtR0Rn m n
  | .movLRmAtRnDisp4 m n disp => EncodingRoundTrip.movLRmAtRnDisp4 m n disp
  | .movLRmAtRn m n => EncodingRoundTrip.movLRmAtRn m n
  | .movLRmDecRn m n => EncodingRoundTrip.movLRmDecRn m n
  | .movLAtR0RmRn m n => EncodingRoundTrip.movLAtR0RmRn m n
  | .movLAtRmDisp4Rn m disp n => EncodingRoundTrip.movLAtRmDisp4Rn m disp n
  | .movLAtRmRn m n => EncodingRoundTrip.movLAtRmRn m n
  | .movLIncRmRn m n => EncodingRoundTrip.movLIncRmRn m n
  | .movLAtPcDisp8Rn disp n => EncodingRoundTrip.movLAtPcDisp8Rn disp n
  | .movLRmAtPcR0 m => EncodingRoundTrip.movLRmAtPcR0 m
  | .movLAtPcR0Rn n => EncodingRoundTrip.movLAtPcR0Rn n
  | .movLRmAtRnRoDisp4 m n o disp => EncodingRoundTrip.movLRmAtRnRoDisp4 m n o disp
  | .movLRmAtRnRoDisp8s m n o disp => EncodingRoundTrip.movLRmAtRnRoDisp8s m n o disp
  | .movLRmAtRnDisp8s m n disp => EncodingRoundTrip.movLRmAtRnDisp8s m n disp
  | .movLAtRmRoDisp4Rn m o disp n => EncodingRoundTrip.movLAtRmRoDisp4Rn m o disp n
  | .movLAtRmRoDisp8sRn m o disp n => EncodingRoundTrip.movLAtRmRoDisp8sRn m o disp n
  | .movLAtRmDisp8sRn m disp n => EncodingRoundTrip.movLAtRmDisp8sRn m disp n
  | .movLRmAtRnRo m n o => EncodingRoundTrip.movLRmAtRnRo m n o
  | .movLRmAtRnDisp6 m n disp => EncodingRoundTrip.movLRmAtRnDisp6 m n disp
  | .movLAtRmRoRn m o n => EncodingRoundTrip.movLAtRmRoRn m o n
  | .movLAtRmDisp6Rn m disp n => EncodingRoundTrip.movLAtRmDisp6Rn m disp n
  | .movQRmAtR0Rn m n => EncodingRoundTrip.movQRmAtR0Rn m n
  | .movQAtR0RmRn m n => EncodingRoundTrip.movQAtR0RmRn m n
  | .movQRmAtRn m n => EncodingRoundTrip.movQRmAtRn m n
  | .movQRmDecRn m n => EncodingRoundTrip.movQRmDecRn m n
  | .movQRmAtPcR0 m => EncodingRoundTrip.movQRmAtPcR0 m
  | .movQAtPcR0Rn n => EncodingRoundTrip.movQAtPcR0Rn n
  | .movQAtRmRn m n => EncodingRoundTrip.movQAtRmRn m n
  | .movQIncRmRn m n => EncodingRoundTrip.movQIncRmRn m n
  | .movQRmAtSpDisp4 m disp => EncodingRoundTrip.movQRmAtSpDisp4 m disp
  | .movQAtSpDisp4Rn disp n => EncodingRoundTrip.movQAtSpDisp4Rn disp n
  | .movQRmAtRnRoDisp4 m n o disp => EncodingRoundTrip.movQRmAtRnRoDisp4 m n o disp
  | .movQAtRmRoDisp4Rn m o disp n => EncodingRoundTrip.movQAtRmRoDisp4Rn m o disp n
  | .movQRmAtRnDisp8s m n disp => EncodingRoundTrip.movQRmAtRnDisp8s m n disp
  | .movQAtRmDisp8sRn m disp n => EncodingRoundTrip.movQAtRmDisp8sRn m disp n
  | .movQRmAtRnRo m n o => EncodingRoundTrip.movQRmAtRnRo m n o
  | .movQAtRmRoRn m o n => EncodingRoundTrip.movQAtRmRoRn m o n
  | .movQRmAtRnDisp6 m n disp => EncodingRoundTrip.movQRmAtRnDisp6 m n disp
  | .movQAtRmDisp6Rn m disp n => EncodingRoundTrip.movQAtRmDisp6Rn m disp n
  | .movWRmAtR0Rn m n => EncodingRoundTrip.movWRmAtR0Rn m n
  | .movWAtR0RmRn m n => EncodingRoundTrip.movWAtR0RmRn m n
  | .movWRmAtRn m n => EncodingRoundTrip.movWRmAtRn m n
  | .movWRmDecRn m n => EncodingRoundTrip.movWRmDecRn m n
  | .movWRmAtPcR0 m => EncodingRoundTrip.movWRmAtPcR0 m
  | .movWAtPcR0Rn n => EncodingRoundTrip.movWAtPcR0Rn n
  | .movWAtRmRn m n => EncodingRoundTrip.movWAtRmRn m n
  | .movWIncRmRn m n => EncodingRoundTrip.movWIncRmRn m n
  | .movWAtPcDisp8Rn disp n => EncodingRoundTrip.movWAtPcDisp8Rn disp n
  | .movWRmAtRnRoDisp4 m n o disp => EncodingRoundTrip.movWRmAtRnRoDisp4 m n o disp
  | .movWAtRmRoDisp4Rn m o disp n => EncodingRoundTrip.movWAtRmRoDisp4Rn m o disp n
  | .movWRmAtRnDisp8s m n disp => EncodingRoundTrip.movWRmAtRnDisp8s m n disp
  | .movWAtRmDisp8sRn m disp n => EncodingRoundTrip.movWAtRmDisp8sRn m disp n
  | .movWRmAtRnRo m n o => EncodingRoundTrip.movWRmAtRnRo m n o
  | .movWRmAtRnDisp6 m n disp => EncodingRoundTrip.movWRmAtRnDisp6 m n disp
  | .movWAtRmRoRn m o n => EncodingRoundTrip.movWAtRmRoRn m o n
  | .movWAtRmDisp6Rn m disp n => EncodingRoundTrip.movWAtRmDisp6Rn m disp n
  | .mova disp => EncodingRoundTrip.mova disp
  | .movcaL n => EncodingRoundTrip.movcaL n
  | .movuBAtRmDisp8sRn m disp n => EncodingRoundTrip.movuBAtRmDisp8sRn m disp n
  | .movuBAtRmDisp6Rn m disp n => EncodingRoundTrip.movuBAtRmDisp6Rn m disp n
  | .movuWAtRmDisp8sRn m disp n => EncodingRoundTrip.movuWAtRmDisp8sRn m disp n
  | .movuWAtRmDisp6Rn m disp n => EncodingRoundTrip.movuWAtRmDisp6Rn m disp n
  | .movuLAtRmDisp8sRn m disp n => EncodingRoundTrip.movuLAtRmDisp8sRn m disp n
  | .movuLAtRmDisp6Rn m disp n => EncodingRoundTrip.movuLAtRmDisp6Rn m disp n
  | .popQRn n => EncodingRoundTrip.popQRn n
  | .popQRnHi n => EncodingRoundTrip.popQRnHi n
  | .pushQRm m => EncodingRoundTrip.pushQRm m
  | .pushQRmHi m => EncodingRoundTrip.pushQRmHi m
  | .bfLabel8s label => EncodingRoundTrip.bfLabel8s label
  | .bfLabel16s label => EncodingRoundTrip.bfLabel16s label
  | .bfSLabel8s label => EncodingRoundTrip.bfSLabel8s label
  | .bfSLabel16s label => EncodingRoundTrip.bfSLabel16s label
  | .bra label => EncodingRoundTrip.bra label
  | .braf n => EncodingRoundTrip.braf n
  | .braNLabel8s label => EncodingRoundTrip.braNLabel8s label
  | .braNLabel16s label => EncodingRoundTrip.braNLabel16s label
  | .bsr label => EncodingRoundTrip.bsr label
  | .bsrf n => EncodingRoundTrip.bsrf n
  | .bsrN label => EncodingRoundTrip.bsrN label
  | .btLabel8s label => EncodingRoundTrip.btLabel8s label
  | .btLabel16s label => EncodingRoundTrip.btLabel16s label
  | .btSLabel8s label => EncodingRoundTrip.btSLabel8s label
  | .btSLabel16s label => EncodingRoundTrip.btSLabel16s label
  | .jmp n => EncodingRoundTrip.jmp n
  | .jsr n => EncodingRoundTrip.jsr n
  | .rts => EncodingRoundTrip.rts
  | .brk => EncodingRoundTrip.brk
  | .clrmac => EncodingRoundTrip.clrmac
  | .clrs => EncodingRoundTrip.clrs
  | .clrt => EncodingRoundTrip.clrt
  | .ldcRmSr m => EncodingRoundTrip.ldcRmSr m
  | .ldcRmGbr m => EncodingRoundTrip.ldcRmGbr m
  | .ldcRmVbr m => EncodingRoundTrip.ldcRmVbr m
  | .ldcRmSsr m => EncodingRoundTrip.ldcRmSsr m
  | .ldcRmSpc m => EncodingRoundTrip.ldcRmSpc m
  | .ldcRmBank m b => EncodingRoundTrip.ldcRmBank m b
  | .ldcRmDbr m => EncodingRoundTrip.ldcRmDbr m
  | .ldcLIncRmSr m => EncodingRoundTrip.ldcLIncRmSr m
  | .ldcLIncRmGbr m => EncodingRoundTrip.ldcLIncRmGbr m
  | .ldcLIncRmVbr m => EncodingRoundTrip.ldcLIncRmVbr m
  | .ldcLIncRmSsr m => EncodingRoundTrip.ldcLIncRmSsr m
  | .ldcLIncRmSpc m => EncodingRoundTrip.ldcLIncRmSpc m
  | .ldcLIncRmBank m b => EncodingRoundTrip.ldcLIncRmBank m b
  | .ldcLIncRmDbr m => EncodingRoundTrip.ldcLIncRmDbr m
  | .ldsRmMach m => EncodingRoundTrip.ldsRmMach m
  | .ldsRmMacl m => EncodingRoundTrip.ldsRmMacl m
  | .ldsRmPr m => EncodingRoundTrip.ldsRmPr m
  | .ldsRmFpul m => EncodingRoundTrip.ldsRmFpul m
  | .ldsRmFpscr m => EncodingRoundTrip.ldsRmFpscr m
  | .ldsLIncRmMach m => EncodingRoundTrip.ldsLIncRmMach m
  | .ldsLIncRmMacl m => EncodingRoundTrip.ldsLIncRmMacl m
  | .ldsLIncRmPr m => EncodingRoundTrip.ldsLIncRmPr m
  | .ldsLIncRmFpul m => EncodingRoundTrip.ldsLIncRmFpul m
  | .ldsLIncRmFpscr m => EncodingRoundTrip.ldsLIncRmFpscr m
  | .ldtlb => EncodingRoundTrip.ldtlb
  | .nop => EncodingRoundTrip.nop
  | .nopImm imm => EncodingRoundTrip.nopImm imm
  | .rte => EncodingRoundTrip.rte
  | .sets => EncodingRoundTrip.sets
  | .sett => EncodingRoundTrip.sett
  | .sleep => EncodingRoundTrip.sleep
  | .stcSrRn n => EncodingRoundTrip.stcSrRn n
  | .stcGbrRn n => EncodingRoundTrip.stcGbrRn n
  | .stcVbrRn n => EncodingRoundTrip.stcVbrRn n
  | .stcSsrRn n => EncodingRoundTrip.stcSsrRn n
  | .stcSpcRn n => EncodingRoundTrip.stcSpcRn n
  | .stcDbrRn n => EncodingRoundTrip.stcDbrRn n
  | .stcBankRn b n => EncodingRoundTrip.stcBankRn b n
  | .stcLSrDecRn n => EncodingRoundTrip.stcLSrDecRn n
  | .stcLGbrDecRn n => EncodingRoundTrip.stcLGbrDecRn n
  | .stcLVbrDecRn n => EncodingRoundTrip.stcLVbrDecRn n
  | .stcLSsrDecRn n => EncodingRoundTrip.stcLSsrDecRn n
  | .stcLSpcDecRn n => EncodingRoundTrip.stcLSpcDecRn n
  | .stcLDbrDecRn n => EncodingRoundTrip.stcLDbrDecRn n
  | .stcLBankDecRn b n => EncodingRoundTrip.stcLBankDecRn b n
  | .stsMachRn n => EncodingRoundTrip.stsMachRn n
  | .stsMaclRn n => EncodingRoundTrip.stsMaclRn n
  | .stsPrRn n => EncodingRoundTrip.stsPrRn n
  | .stsFpulRn n => EncodingRoundTrip.stsFpulRn n
  | .stsFpscrRn n => EncodingRoundTrip.stsFpscrRn n
  | .stsLMachDecRn n => EncodingRoundTrip.stsLMachDecRn n
  | .stsLMaclDecRn n => EncodingRoundTrip.stsLMaclDecRn n
  | .stsLPrDecRn n => EncodingRoundTrip.stsLPrDecRn n
  | .stsLFpulDecRn n => EncodingRoundTrip.stsLFpulDecRn n
  | .stsLFpscrDecRn n => EncodingRoundTrip.stsLFpscrDecRn n
  | .trapa imm => EncodingRoundTrip.trapa imm
  | .fabs n => EncodingRoundTrip.fabs n
  | .fadd m n => EncodingRoundTrip.fadd m n
  | .fcmpeq m n => EncodingRoundTrip.fcmpeq m n
  | .fcmpgt m n => EncodingRoundTrip.fcmpgt m n
  | .fcnvds m => EncodingRoundTrip.fcnvds m
  | .fcnvsd n => EncodingRoundTrip.fcnvsd n
  | .fdiv m n => EncodingRoundTrip.fdiv m n
  | .fipr vm vn => EncodingRoundTrip.fipr vm vn
  | .fldi0 n => EncodingRoundTrip.fldi0 n
  | .fldi1 n => EncodingRoundTrip.fldi1 n
  | .flds m => EncodingRoundTrip.flds m
  | .float n => EncodingRoundTrip.float n
  | .fmac m n => EncodingRoundTrip.fmac m n
  | .fmov m n => EncodingRoundTrip.fmov m n
  | .fmovSAtR0RmFrn m n => EncodingRoundTrip.fmovSAtR0RmFrn m n
  | .fmovSFrmAtR0Rn m n => EncodingRoundTrip.fmovSFrmAtR0Rn m n
  | .fmovSAtRmFrn m n => EncodingRoundTrip.fmovSAtRmFrn m n
  | .fmovSIncRmFrn m n => EncodingRoundTrip.fmovSIncRmFrn m n
  | .fmovSFrmAtRn m n => EncodingRoundTrip.fmovSFrmAtRn m n
  | .fmovSFrmDecRn m n => EncodingRoundTrip.fmovSFrmDecRn m n
  | .fmul m n => EncodingRoundTrip.fmul m n
  | .fneg n => EncodingRoundTrip.fneg n
  | .fsqrt n => EncodingRoundTrip.fsqrt n
  | .fsub m n => EncodingRoundTrip.fsub m n
  | .psetmd4 imm => EncodingRoundTrip.psetmd4 imm
  | .ftrc m => EncodingRoundTrip.ftrc m
  | .ldhf16RmFpul m => EncodingRoundTrip.ldhf16RmFpul m
  | .ldhf16Imm16Fpul imm => EncodingRoundTrip.ldhf16Imm16Fpul imm
  | .ldif16 imm => EncodingRoundTrip.ldif16 imm
  | .sthf16 n => EncodingRoundTrip.sthf16 n

/-! ## Fields with reserved bits -/

theorem mkE_of_eQ {y : Nibble} (hq : eQ y = false) : mkE false (eN y) (eM y) (eO y) = y := by
  rw [← hq, mkE_split]

theorem mkE_of_not_eO {y : Nibble} (ho : eO y = false) : mkE (eQ y) (eN y) (eM y) false = y := by
  rw [← ho, mkE_split]

theorem mkE_of_eO {y : Nibble} (hq : eQ y = false) (ho : eO y = true) : mkE false (eN y) (eM y) true = y := by
  simpa [ho] using mkE_of_eQ hq

theorem mkE_of_neither {y : Nibble} (hq : eQ y = false) (ho : eO y = false) : mkE false (eN y) (eM y) false = y := by
  simpa [ho] using mkE_of_eQ hq

theorem mkF_of_fI {y : Nibble} (hi : fI y = 0#2) : mkF (fN y) (fM y) 0#2 = y := by
  rw [← hi, mkF_split]

/-! ## The tables -/

/-- A well-formed instruction whose encoding is the words `ws`. -/
def Instr.ReadFrom (ws : List Word) (i : Instr) : Prop := i.wellFormed = true ∧ encode i = ws

theorem decode8E_reads (y z a b c d : Nibble) :
    ∀ i, decode8E y z a b c d = some i → i.ReadFrom [word 0x8#4 0xE#4 y z, word a b c d] := by
  simp only [decode8E, decode8EGroup0, decode8EGroup1, decode8EGroup2, decode8EGroup3, decode8EGroup4, decode8EGroup5,
    decode8EGroup6, decode8EGroup7, decode8EGroup8, decode8EGroup9, decode8EGroupC, decode8EGroupE]
  repeat' refine decode_ite (fun h => ?_) (fun _ => ?_)
  all_goals try subst_vars
  all_goals first
    | exact decode_none
    | exact decode_some ⟨rfl, by simp [encode]⟩

theorem decodeCE_reads (y z a b c d : Nibble) :
    ∀ i, decodeCE y z a b c d = some i → i.ReadFrom [word 0xC#4 0xE#4 y z, word a b c d] := by
  simp only [decodeCE, decodeCEGroup0, decodeCEGroup2, decodeCEGroup3, decodeCEGroup3LowF, decodeCEGroup4,
    decodeCEGroup6, decodeCEGroup6LowF, decodeCEGroup7, decodeCEGroup9, decodeCEGroupA, decodeCEGroupC, decodeCEGroupE]
  repeat' refine decode_ite (fun _ => ?_) (fun _ => ?_)
  all_goals try subst_vars
  all_goals first
    | exact decode_none
    | refine decode_some ⟨rfl, ?_⟩
      simp_all [encode, mkE_of_eQ, mkE_of_not_eO, mkE_of_eO, mkE_of_neither, mkF_of_fI]

theorem decode16_reads (a b c d : Nibble) :
    ∀ i, decode16 a b c d = some i → i.ReadFrom [word a b c d] := by
  simp only [decode16, decode16Group0, decode16Group0Low2, decode16Group0Low3, decode16Group0Low8, decode16Group0Low9,
    decode16Group0LowA, decode16Group0LowB, decode16Group1, decode16Group2, decode16Group3, decode16Group4,
    decode16Group4Low0, decode16Group4Low1, decode16Group4Low2, decode16Group4Low3, decode16Group4Low4,
    decode16Group4Low5, decode16Group4Low6, decode16Group4Low7, decode16Group4Low8, decode16Group4Low9,
    decode16Group4LowA, decode16Group4LowB, decode16Group4LowE, decode16Group5, decode16Group6, decode16Group7,
    decode16Group8, decode16Group9, decode16GroupA, decode16GroupB, decode16GroupC, decode16GroupD, decode16GroupE,
    decode16GroupF, decode16GroupFLowD]
  repeat' refine decode_ite (fun _ => ?_) (fun _ => ?_)
  all_goals try subst_vars
  all_goals first
    | exact decode_none
    | exact decode_some (by simp_all [Instr.ReadFrom, Instr.wellFormed, encode, mkBank_bankOf])

/-! ## Bytes -/

theorem encodeBytes_of_word {i : Instr} {w : Word} (h : encode i = [w]) : encodeBytes i = wordBytes w := by
  simp [encodeBytes, wordsBytes, h]

theorem encodeBytes_of_pair {i : Instr} {w1 w2 : Word} (h : encode i = [w1, w2]) :
    encodeBytes i = wordBytes w1 ++ wordBytes w2 := by
  simp [encodeBytes, wordsBytes, h]

/-- The instruction of a word that stands alone is encoded by that word. -/
theorem decodeWord_reads {w : Word} {i : Instr} (h : decodeWord w = some i) : i.ReadFrom [w] := by
  simpa [word_nibs] using decode16_reads _ _ _ _ i h

/-- A word that takes a second one begins with 8E or with CE. -/
theorem isPrefix_cases {w : Word} (h : isPrefix w = true) :
    (nib3 w = 0x8#4 ∨ nib3 w = 0xC#4) ∧ nib2 w = 0xE#4 := by
  simpa [isPrefix] using h

/-- The instruction of a first and a second word is encoded by the two. -/
theorem decodePair_reads {w1 w2 : Word} {i : Instr} (hp : isPrefix w1 = true) (h : decodePair w1 w2 = some i) :
    i.ReadFrom [w1, w2] := by
  obtain ⟨h3, h2⟩ := isPrefix_cases hp
  have e1 := word_nibs w1
  have e2 := word_nibs w2
  rcases h3 with h3 | h3
  · rw [decodePair, if_pos h3] at h
    rw [← e1, ← e2, h3, h2]
    exact decode8E_reads _ _ _ _ _ _ i h
  · rw [decodePair, if_neg (by rw [h3]; decide)] at h
    rw [← e1, ← e2, h3, h2]
    exact decodeCE_reads _ _ _ _ _ _ i h

/-- What the decoder answers comes from the table of the first word, and leaves what follows the words of it. -/
theorem decode_instr_cases {bytes rest : List Byte} {i : Instr} (h : decode bytes = .instr i rest) :
    (∃ w, isPrefix w = false ∧ decodeWord w = some i ∧ bytes = wordBytes w ++ rest) ∨
      (∃ w1 w2, isPrefix w1 = true ∧ decodePair w1 w2 = some i ∧ bytes = wordBytes w1 ++ wordBytes w2 ++ rest) := by
  match bytes with
  | [] => simp [decode] at h
  | [_] => simp [decode] at h
  | l :: h' :: tl =>
    simp only [decode] at h
    split at h
    case isTrue hp =>
      split at h
      next l2 h2 rest2 =>
        split at h
        next j hj =>
          obtain ⟨rfl, rfl⟩ := DecodeResult.instr.inj h
          exact .inr ⟨_, _, hp, hj, by simp⟩
        next => simp at h
      next => simp at h
    case isFalse hp =>
      split at h
      next j hj =>
        obtain ⟨rfl, rfl⟩ := DecodeResult.instr.inj h
        exact .inl ⟨_, by simpa using hp, hj, by simp⟩
      next => simp at h

/-- Settles O2: the answer comes from the table of the first word, and the tables answer what their words encode. -/
theorem encodingReadsDecode : Obligations.EncodingReadsDecode := by
  intro bytes rest i h
  rcases decode_instr_cases h with ⟨w, -, hw, rfl⟩ | ⟨w1, w2, hp, hw, rfl⟩
  · obtain ⟨hwf, henc⟩ := decodeWord_reads hw
    exact ⟨hwf, by rw [encodeBytes_of_word henc]⟩
  · obtain ⟨hwf, henc⟩ := decodePair_reads hp hw
    exact ⟨hwf, by rw [encodeBytes_of_pair henc]⟩

end Sys2Proof
end

section
/-!
Memory (20_memory.md R60 to R74) and the step: what `check` admits, what a load and a store leave, how the fetch follows
the first word, and what a state that does not run answers.
-/
namespace Sys2Proof.Machine

/-! ## What `check` admits -/

/-- MEM_MAP allows a byte exactly when some region backs it, a writable one for a write (20_memory.md R67). -/
theorem Launch.allows_iff (l : Launch) (kind : AccessKind) (a : Nat) :
    l.allows kind a = true ↔
      ∃ r ∈ l.memMap, r.base ≤ a ∧ a < r.base + r.size ∧ (kind = .write → r.writable = true) := by
  simp [Launch.allows, Region.backs, and_assoc, imp_iff_not_or]

/-- An access stays within the address space and touches bytes that MEM_MAP allows. -/
theorem Launch.mapped_iff (l : Launch) (kind : AccessKind) (a : QWord) (n : Nat) :
    l.mapped kind a n = true ↔ l.locate a + n ≤ l.space ∧ ∀ k < n, ∃ r ∈ l.memMap,
      r.base ≤ l.locate a + k ∧ l.locate a + k < r.base + r.size ∧ (kind = .write → r.writable = true) := by
  simp [Launch.mapped, Launch.allows_iff]

/-- The parameter of each size, by the size. -/
theorem Launch.align_of_mem {l : Launch} {n al : Nat}
    (h : (n, al) ∈ [(1, l.alignB), (2, l.alignW), (4, l.alignL), (8, l.alignQ)]) : l.align n = al := by
  simp only [List.mem_cons, Prod.mk.injEq, List.not_mem_nil, or_false] at h
  rcases h with ⟨rfl, rfl⟩ | ⟨rfl, rfl⟩ | ⟨rfl, rfl⟩ | ⟨rfl, rfl⟩ <;> rfl

theorem State.accessOk_iff (s : State) (kind : AccessKind) (a : QWord) (n : Nat) :
    s.accessOk kind a n = true ↔ a.toNat % s.launch.align n = 0 ∧ s.launch.mapped kind a n = true := by
  simp [State.accessOk]

theorem State.fetchOk_iff (s : State) (a : QWord) :
    s.fetchOk a = true ↔ a.toNat % 2 = 0 ∧ s.launch.mapped .fetch a 2 = true := by
  simp [State.fetchOk]

/-- The address space by its number of significant bits. -/
theorem Launch.space_eq {l : Launch} (h : l.vaBits ≤ 64) : l.space = 2 ^ l.vaBits := by
  rw [Launch.space, Nat.min_eq_left h]

/-! ## Reading bytes -/

/-- Bytes that all hold a value are read as their little-endian value. -/
theorem memRead_of_bytes {m : List Host.Cell} {a n : Nat} {f : Nat → Byte}
    (h : ∀ k < n, memGet m (a + k) = some (f k)) :
    memRead m a n = some (((List.range n).map fun k => (f k).toNat * 256 ^ k).sum) := by
  induction n generalizing a f with
  | zero => rfl
  | succ n ih =>
    have h0 : memGet m a = some (f 0) := h 0 (by omega)
    have htail : memRead m (a + 1) n = some (((List.range n).map fun k => (f (k + 1)).toNat * 256 ^ k).sum) :=
      ih fun k hk => by rw [Nat.add_assoc, Nat.add_comm 1 k]; exact h (k + 1) (by omega)
    have hscale (k : Nat) : (f (k + 1)).toNat * 256 ^ (k + 1) = 256 * ((f (k + 1)).toNat * 256 ^ k) := by
      rw [Nat.pow_succ]; ring
    rw [memRead, h0, htail]
    simp [List.range_succ_eq_map, Function.comp_def, hscale, List.sum_map_mul_left]

/-- A byte with no value leaves the access without one. -/
theorem memRead_none {m : List Host.Cell} {a n : Nat} (h : ∃ k < n, memGet m (a + k) = none) :
    memRead m a n = none := by
  induction n generalizing a with
  | zero => obtain ⟨k, hk, -⟩ := h; omega
  | succ n ih =>
    obtain ⟨k, hk, hnone⟩ := h
    cases k with
    | zero => rw [memRead, show memGet m a = none from hnone]
    | succ k =>
      have : memRead m (a + 1) n = none := ih ⟨k, by omega, by rw [← hnone]; congr 1; omega⟩
      rw [memRead, this]
      split <;> simp_all

/-- Bytes written are read back, cut to their number. -/
theorem memRead_memWrite (m : List Host.Cell) (a n v : Nat) :
    memRead (memWrite m a n v) a n = some (v % 256 ^ n) := by
  induction n generalizing m a v with
  | zero => simp [memRead, Nat.mod_one]
  | succ n ih =>
    have h0 : memGet (memWrite m a (n + 1) v) a = some (BitVec.ofNat 8 v) := by
      rw [memGet_memWrite, if_pos (by omega)]; simp
    rw [memRead, h0, memWrite, ih, Nat.pow_succ', Nat.mod_mul]
    simp

/-- Settles O18: the shared operations by their cases, the value read by its bytes. -/
theorem memoryReadsBackWrites : Obligations.MemoryReadsBackWrites := by
  intro s a n v _
  refine ⟨fun k => ⟨fun hs => ?_, store_raises⟩, fun k => ⟨fun bytes hok hbytes => ?_, load_raises⟩⟩
  · exact ⟨_, store_next hs, holds_writeMem s a n v, keeps_writeMem s a n v, memRead_memWrite s.mem _ n v⟩
  · exact load_next ⟨hok, memRead_of_bytes hbytes⟩

/-- Settles O19: `check` by its definition, the space by its bits, a byte with no value by the value it leaves out. -/
theorem accessCheckRule : Obligations.AccessCheckRule := by
  refine ⟨fun s a kind n al hal => ?_, fun l a => ⟨fun h => ?_, fun h => l.locate_full h a⟩, by decide, by decide,
    by decide, fun s a n k hok hnone => ?_⟩
  · rw [State.accessOk_iff, Launch.mapped_iff, Launch.align_of_mem hal]
  · exact ⟨Launch.space_eq h, by rw [Launch.locate, Launch.space_eq h]⟩
  · simp [load, hok, memRead_none hnone]

/-- Settles O20: extensionality of the canonical form, and that a write of bytes keeps it. -/
theorem memoryStaysCanonical : Obligations.MemoryStaysCanonical :=
  ⟨fun _ _ h h' hg => mem_ext h h' hg, fun _ _ _ v h ha => memWf_memWrite v h ha⟩

/-! ## The fetch -/

/-- The high byte of a word is its two upper nibbles. -/
theorem highByte_eq (w : Word) : w.extractLsb' 8 8 = nn2 (nib3 w) (nib2 w) := by
  simp only [nib3, nib2, nn2]
  apply BitVec.eq_of_getLsbD_eq
  intro i hi
  simp only [BitVec.getLsbD_extractLsb', BitVec.getLsbD_append]
  grind

/-- A word that takes a second one has the high byte 8E or CE (30_encoding.md R90). -/
theorem isPrefix_iff_highByte (w : Word) :
    isPrefix w = true ↔ w.extractLsb' 8 8 = 0x8E#8 ∨ w.extractLsb' 8 8 = 0xCE#8 := by
  have hnib : ∀ a b : Nibble, ((a == 0x8#4 || a == 0xC#4) && b == 0xE#4) = true ↔
      nn2 a b = 0x8E#8 ∨ nn2 a b = 0xCE#8 := by decide
  rw [highByte_eq]
  exact hnib _ _

theorem fetchWord_next {a : QWord} {s : State} {w : Word} {k : Word → Result} (hok : s.fetchOk a = true)
    (hw : memRead s.mem (s.launch.locate a) 2 = some w.toNat) : fetchWord a s k = k w := by
  simp [fetchWord, hok, hw]

theorem fetchWord_raises {a : QWord} {s : State} {k : Word → Result} (h : s.fetchOk a = false) :
    fetchWord a s k = raiseFetch a s := by
  simp [fetchWord, h]

/-- A fetch whose first word stands alone gives the decoder that word. -/
theorem fetchBytes_word {s : State} {w : Word} {k : List Byte → Result} (hok : s.fetchOk s.pc = true)
    (hw : memRead s.mem (s.launch.locate s.pc) 2 = some w.toNat) (hp : isPrefix w = false) :
    fetchBytes s k = k (wordBytes w) := by
  rw [fetchBytes, fetchWord_next hok hw, if_neg (by simp [hp])]

/-- After a word that takes a second one the fetch goes on with the word at PC + 2. -/
theorem fetchBytes_prefix {s : State} {w : Word} {k : List Byte → Result} (hok : s.fetchOk s.pc = true)
    (hw : memRead s.mem (s.launch.locate s.pc) 2 = some w.toNat) (hp : isPrefix w = true) :
    fetchBytes s k = fetchWord (s.pc + 2#64) s fun w2 => k (wordBytes w ++ wordBytes w2) := by
  rw [fetchBytes, fetchWord_next hok hw, if_pos hp]

/-- A state that runs fetches, decodes and executes. -/
theorem step_running {s : State} (hend : s.runEnded = false) (hsleep : s.sleeping = false) (hjq : jqOf s.sr = true) :
    step s = fetchBytes s fun bytes => runDecoded s (decode bytes) := by
  simp [step, hend, hsleep, hjq]

theorem wordsBytes_word (w : Word) : wordsBytes [w] = wordBytes w := by simp [wordsBytes]

theorem wordsBytes_pair (w1 w2 : Word) : wordsBytes [w1, w2] = wordBytes w1 ++ wordBytes w2 := by simp [wordsBytes]

/-- Settles O5: the checks and the length rule in the order of the fetch. -/
theorem fetchFollowsTheFirstWord : Obligations.FetchFollowsTheFirstWord := by
  intro s hend hsleep hjq
  rw [step_running hend hsleep hjq]
  refine ⟨fun a => ?_, fetchWord_raises, fun w1 hok hw1 => ⟨fun hhigh => ?_, fun hhigh => ?_⟩⟩
  · simp [State.fetchOk_iff, Launch.mapped_iff]
  · have hp : isPrefix w1 = false := by
      rw [← Bool.not_eq_true, isPrefix_iff_highByte]
      exact not_or.2 hhigh
    rw [fetchBytes_word hok hw1 hp, wordsBytes_word]
  · rw [fetchBytes_prefix hok hw1 ((isPrefix_iff_highByte w1).2 hhigh)]
    refine ⟨fetchWord_raises, fun w2 hok2 hw2 => ?_⟩
    rw [fetchWord_next hok2 hw2, wordsBytes_pair]

/-- The bytes of a word that lie in memory are read as the word. -/
theorem memRead_word {m : List Host.Cell} {a : Nat} {w : Word} (h0 : memGet m a = some (w.extractLsb' 0 8))
    (h1 : memGet m (a + 1) = some (w.extractLsb' 8 8)) : memRead m a 2 = some w.toNat := by
  have e0 : (w.extractLsb' 0 8).toNat = w.toNat % 256 := by simp
  have e1 : (w.extractLsb' 8 8).toNat = w.toNat / 256 := by
    have := w.isLt
    simp [Nat.shiftRight_eq_div_pow]
    omega
  simp only [memRead, h0, h1, e0, e1]
  congr 1
  omega

/-- A fetch address stays within the address space with the byte after it. -/
theorem locate_succ_of_fetchOk {s : State} {a : QWord} (h : s.fetchOk a = true) :
    s.launch.locate (a + 1#64) = s.launch.locate a + 1 := by
  obtain ⟨-, hmapped⟩ := (s.fetchOk_iff a).1 h
  obtain ⟨hle, -⟩ := (Launch.mapped_iff _ _ _ _).1 hmapped
  exact s.launch.locate_add a 1 (by omega)

/-- Words that lie at a fetchable address are fetched. -/
theorem memRead_fetch {s : State} {a : QWord} {w : Word} (hok : s.fetchOk a = true)
    (h0 : memGet s.mem (s.launch.locate a) = some (w.extractLsb' 0 8))
    (h1 : memGet s.mem (s.launch.locate (a + 1#64)) = some (w.extractLsb' 8 8)) :
    memRead s.mem (s.launch.locate a) 2 = some w.toNat :=
  memRead_word h0 (by rw [← locate_succ_of_fetchOk hok]; exact h1)

theorem length_wordBytes (w : Word) : (wordBytes w).length = 2 := rfl

/-- Two words encode an instruction of four bytes. -/
theorem length_encode_of_bytes {i : Instr} (h : (encodeBytes i).length = 4) : (encode i).length = 2 := by
  have hsum : ∀ ws : List Word, (wordsBytes ws).length = 2 * ws.length := by
    intro ws
    induction ws with
    | nil => rfl
    | cons w rest ih => simp_all [wordsBytes, length_wordBytes]; omega
  have := hsum (encode i)
  rw [encodeBytes] at h
  omega

/-- Settles O4: the fetch reads the bytes of the encoding, and the decoder answers the instruction. -/
theorem stepRunsDecodedInstruction : Obligations.StepRunsDecodedInstruction := by
  intro s i hwf hend hsleep hjq hok hok2 hbytes
  have hdec : decode (encodeBytes i) = .instr i [] := by
    have := decodeReadsEncoding i hwf []
    simpa using this
  have hrun : runDecoded s (decode (encodeBytes i)) = exec i s := by rw [hdec]; rfl
  rw [step_running hend hsleep hjq, ← hrun]
  rcases decode_instr_cases hdec with ⟨w, hp, -, hb⟩ | ⟨w1, w2, hp, -, hb⟩
  · rw [List.append_nil] at hb
    have hw := memRead_fetch (w := w) hok (by simpa [hb, wordBytes] using hbytes 0 (by simp [hb, wordBytes]))
      (by simpa [hb, wordBytes] using hbytes 1 (by simp [hb, wordBytes]))
    rw [fetchBytes_word hok hw hp, hb]
  · rw [List.append_nil] at hb
    have hok2 := hok2 (length_encode_of_bytes (by simp [hb, length_wordBytes]))
    have hw1 := memRead_fetch (w := w1) hok (by simpa [hb, wordBytes] using hbytes 0 (by simp [hb, wordBytes]))
      (by simpa [hb, wordBytes] using hbytes 1 (by simp [hb, wordBytes]))
    have hw2 := memRead_fetch (w := w2) hok2 (by simpa [hb, wordBytes] using hbytes 2 (by simp [hb, wordBytes]))
      (by simpa [hb, wordBytes, BitVec.add_assoc] using hbytes 3 (by simp [hb, wordBytes]))
    rw [fetchBytes_prefix hok hw1 hp, fetchWord_next hok2 hw2, hb]

/-! ## Words -/

/-- Settles O3: each word is the encoding of the instruction, which the decoder reads back. -/
theorem exampleWordsDecode : Obligations.ExampleWordsDecode := by
  refine ⟨?_, ?_, ?_, ?_, ?_, ?_, ?_, ?_, ?_, ?_, ?_, ?_, ?_, ?_, ?_, ?_⟩
  all_goals exact decodes_of_encode_eq (by decide) rfl (decodeReadsEncoding _)

theorem raiseIllegal_outside {s : State} (h : s.pending = none) : raiseIllegal s = raise .illegalInstruction s := by
  simp [raiseIllegal, State.inSlot, h]

theorem raiseIllegal_inSlot {s : State} (h : s.pending ≠ none) :
    raiseIllegal s = raise .slotIllegalInstruction s := by
  simp [raiseIllegal, State.inSlot, Option.isSome_iff_ne_none.2 h]

/-- A word that no row lists is rejected, with nothing after it. -/
theorem decode_unlisted_alone {a b c d : Nibble} (hp : isPrefix (word a b c d) = false)
    (h : decode16 a b c d = none) :
    decode (wordsBytes [word a b c d]) = .rejected (.unlisted16 (word a b c d)) := by
  simpa using decode_word_unlisted [] hp h

/-- Settles O6: a rejected word raises by the delay slot; the three words are listed by no row. -/
theorem unlistedEncodingRaises : Obligations.UnlistedEncodingRaises := by
  refine ⟨fun s e => ⟨raiseIllegal_outside, raiseIllegal_inSlot⟩, ?_, ?_, ?_⟩
  · simpa using decode_0F09_rejected []
  · exact decode_unlisted_alone (a := 0x3#4) (b := 0x0#4) (c := 0x1#4) (d := 0x2#4) (by decide) (by decide)
  · exact decode_unlisted_alone (a := 0x6#4) (b := 0x0#4) (c := 0x1#4) (d := 0x8#4) (by decide) (by decide)

/-! ## Reset and the ends of a run -/

/-- Settles O8: the default launch is admitted, and memory is empty. -/
theorem resetHasInvariant : Obligations.ResetHasInvariant where
  launch := by decide
  memory := by decide
  mode := by decide
  fpscr := by decide

/-- Settles O9: each field is the launch's own value. -/
theorem resetLeavesNothingPending : Obligations.ResetLeavesNothingPending :=
  fun _ _ => ⟨rfl, rfl, rfl, rfl, rfl, rfl, rfl, rfl⟩

/-- Settles O11: the tests a step begins with, in their order. -/
theorem endedRunTakesNoStep : Obligations.EndedRunTakesNoStep := by
  intro s
  refine ⟨fun hend => ?_, fun hend hsleep => ?_, fun hend hsleep hjq => ?_⟩
  · simp [step, hend]
  · simp [step, hend, hsleep]
  · simp [step, hend, hsleep, hjq]

/-! ## Taking an exception -/

/-- The address that SPC receives from an exception other than Trap: the branch's in a delay slot, else PC. -/
theorem returnAddr_inSlot {s : State} {c : Cause} {b : Pending} (hc : ∀ k, c ≠ .trap k) (h : s.pending = some b) :
    s.returnAddr c = b.branchAddr := by
  cases c with
  | trap k => exact absurd rfl (hc k)
  | _ => simp [State.returnAddr, h]

theorem returnAddr_outside {s : State} {c : Cause} (hc : ∀ k, c ≠ .trap k) (h : s.pending = none) :
    s.returnAddr c = s.pc := by
  cases c with
  | trap k => exact absurd rfl (hc k)
  | _ => simp [State.returnAddr, h]

/-- The entry into a handler leaves all but SPC, SSR, SGR, SR and the records. -/
theorem keeps_enterTrap (s : State) (c : Cause) (inst : Option DWord) :
    s.KeepsBut (s.enterTrap c inst) ([.spc, .ssr, .sgr, .records] ++ Part.allSr) := by
  have hsr := keeps_setSr s (s.sr ||| s.launch.srEntrySet)
  intro p hp
  rw [List.mem_append, not_or] at hp
  obtain ⟨hp, hbits⟩ := hp
  cases p with
  | srBit i => exact hsr _ hbits
  | spc | ssr | sgr | records => simp at hp
  | _ => rfl

/-- Without a handler an exception other than Breakpoint ends the run in the fault of its record. -/
theorem raiseWith_fault {c : Cause} {inst : Option DWord} {s : State} (hc : c ≠ .breakpoint)
    (h : s.launch.trapEntry = .fault) : raiseWith c inst s = .fault (.exception (s.excRecord c inst)) := by
  cases c with
  | breakpoint => exact absurd rfl hc
  | _ => simp [raiseWith, h]

/-- Settles O12: the entry by the fields it writes, under either value of TRAP_ENTRY. -/
theorem trapEntrySavesAndVectors : Obligations.TrapEntrySavesAndVectors := by
  refine fun s => ⟨fun _ => rfl, fun _ => rfl, fun c inst hc => ⟨fun hv => ?_, fun hf => raiseWith_fault hc hf⟩⟩
  refine ⟨_, raiseWith_vector hc hv, fun b hb hk => returnAddr_inSlot hk hb, fun hb hk => returnAddr_outside hk hb, ?_,
    rfl, rfl, fun i => BitVec.getLsbD_or, rfl, rfl, ⟨_, rfl, rfl, rfl, rfl, rfl⟩, keeps_enterTrap s c inst⟩
  rintro k rfl
  rfl

end Sys2Proof.Machine
end

section
/-!
The invariants (10_state.md, 60_exceptions.md): one relation, `Effect`, says what any instruction may do to the parts
that they speak of. Each shape of instruction has the effect its rule lists, an exception has the least of all, and the
five statements read their part off.
-/
namespace Sys2Proof

/-- The bits of SR an instruction may write: those of 10_state.md R25 to R29. -/
def Instr.srBits : Instr → List Nat
  | .ldcRmSr _ | .ldcLIncRmSr _ | .rte => List.range 32
  | .sets | .clrs => [Config.srS]
  | .div0s | .div0u => [Config.srQ, Config.srM, Config.srT]
  | .div1 => [Config.srQ, Config.srT]
  | i => if i.writesT then [Config.srT] else []

/-- What is listed as writing SR.T may write its bit. -/
theorem srT_mem_srBits {i : Instr} (h : i.writesT = true) : Config.srT ∈ i.srBits := by
  unfold Instr.srBits
  split
  · exact List.mem_range.2 (by decide)
  · exact List.mem_range.2 (by decide)
  · exact List.mem_range.2 (by decide)
  · exact absurd h (by decide)
  · exact absurd h (by decide)
  · simp
  · simp
  · simp
  · simp [h]

/-- The instructions that write a banked register (10_state.md R22). -/
def Instr.writesBank : Instr → Bool
  | .ldcRmBank _ _ | .ldcLIncRmBank _ _ => true
  | _ => false

end Sys2Proof

namespace Sys2Proof.Machine

/-! ## The parts the invariants speak of -/

/-- The parts of a state that the invariants speak of. -/
def State.core (s : State) :=
  (s.launch, s.mem, s.sr, s.fpscr, s.bank, s.records, s.sgr)

theorem State.core_retire (s : State) (l : Len) : (s.retire l).core = s.core := by
  simp [State.core]

theorem State.core_setPair (s : State) (r : Nibble) (v : QWord) : (s.setPair r v).core = s.core := by
  simp [State.core]

theorem State.core_fmovInc (s : State) (m : BitVec 5) (inc : Bool) : (s.fmovInc m inc).core = s.core := by
  cases inc <;> rfl

/-- What an instruction that may write the bits `bits` of SR, and the bank when `bank` is set, does to those parts. A
bit of SR_ENTRY_SET may be set by the entry into a handler. -/
structure Effect (bits : List Nat) (bank : Bool) (s t : State) : Prop where
  launch : t.launch = s.launch
  memory : memWf s.mem = true → memWf t.mem = true
  flags : ∀ k, k ∉ bits → s.launch.srEntrySet.getLsbD k = false → t.sr.getLsbD k = s.sr.getLsbD k
  mode : jqOf s.sr = true → jqOf t.sr = true
  fpscr : s.launch.wf = true → fpscrBad s.launch s.fpscr = false → fpscrBad s.launch t.fpscr = false
  bank : bank = false → t.bank = s.bank
  records : (t.records = s.records ∧ t.sgr = s.sgr) ∨ ∃ r, t.records = s.records ++ [r]

variable {bits : List Nat} {bank : Bool} {s t u : State}

theorem Effect.refl (s : State) : Effect bits bank s s where
  launch := rfl
  memory h := h
  flags _ _ _ := rfl
  mode h := h
  fpscr _ h := h
  bank _ := rfl
  records := .inl ⟨rfl, rfl⟩

/-- An update of other parts does not count. -/
theorem Effect.of_core (h : Effect bits bank s t) (e : u.core = t.core) : Effect bits bank s u := by
  simp only [State.core, Prod.mk.injEq] at e
  obtain ⟨hlaunch, hmem, hsr, hfpscr, hbank, hrecords, hsgr⟩ := e
  exact {
    launch := hlaunch.trans h.launch
    memory := hmem ▸ h.memory
    flags := hsr ▸ h.flags
    mode := hsr ▸ h.mode
    fpscr := hfpscr ▸ h.fpscr
    bank := hbank ▸ h.bank
    records := by rw [hrecords, hsgr]; exact h.records }

theorem Effect.retire (h : Effect bits bank s t) (l : Len) : Effect bits bank s (t.retire l) :=
  h.of_core (t.core_retire l)

theorem Effect.setReg (h : Effect bits bank s t) (d : BitVec 5) (v : QWord) : Effect bits bank s (t.setReg d v) :=
  h.of_core rfl

/-- A write that `check` admits keeps the canonical form of memory. -/
theorem Effect.writeMem (h : Effect bits bank s t) {a : QWord} {n v : Nat} (hs : t.Stores a n) :
    Effect bits bank s (t.writeMem a n v) :=
  { h with memory := fun hm => memWf_writeMem v (h.memory hm) hs }

/-- A bit of SR among those that may be written, JQ aside. -/
theorem Effect.setBit (h : Effect bits bank s t) {k : Nat} (b : Bool) (hk : k ∈ bits) (hlt : k < 32)
    (hjq : k ≠ Config.srJq) : Effect bits bank s { t with sr := setBitTo t.sr k b } :=
  { h with
    flags := fun i hi he => by
      have hne : i ≠ k := fun e => hi (e ▸ hk)
      exact (setBitTo_bit t.sr k i b hlt).trans ((if_neg hne).trans (h.flags i hi he))
    mode := fun hm => (setBitTo_bit t.sr k Config.srJq b hlt).trans ((if_neg hjq.symm).trans (h.mode hm)) }

theorem Effect.setT (h : Effect bits bank s t) (b : Bool) (hk : Config.srT ∈ bits) : Effect bits bank s (t.setT b) :=
  h.setBit b hk (by decide) (by decide)

theorem Effect.setS (h : Effect bits bank s t) (b : Bool) (hk : Config.srS ∈ bits) : Effect bits bank s (t.setS b) :=
  h.setBit b hk (by decide) (by decide)

theorem Effect.setQ (h : Effect bits bank s t) (b : Bool) (hk : Config.srQ ∈ bits) : Effect bits bank s (t.setQ b) :=
  h.setBit b hk (by decide) (by decide)

theorem Effect.setM (h : Effect bits bank s t) (b : Bool) (hk : Config.srM ∈ bits) : Effect bits bank s (t.setM b) :=
  h.setBit b hk (by decide) (by decide)

/-- All of SR, when JQ stays set. -/
theorem Effect.setSr (h : Effect (List.range 32) bank s t) {v : DWord} (hjq : jqOf v = true) :
    Effect (List.range 32) bank s { t with sr := v } :=
  { h with
    flags := fun k hk _ => by
      have hge : 32 ≤ k := by simpa using hk
      exact (BitVec.getLsbD_of_ge v k hge).trans (BitVec.getLsbD_of_ge s.sr k hge).symm
    mode := fun _ => hjq }

/-- All of FPSCR, with a value that the profile supports. -/
theorem Effect.setFpscr (h : Effect bits bank s t) {v : DWord}
    (hv : s.launch.wf = true → fpscrBad s.launch s.fpscr = false → fpscrBad s.launch v = false) :
    Effect bits bank s { t with fpscr := v } :=
  { h with fpscr := hv }

theorem Effect.setBankReg (h : Effect bits true s t) (b : BitVec 3) (v : QWord) :
    Effect bits true s (t.setBankReg b v) :=
  { h with bank := nofun }

/-- Any exception: SR gains the bits of SR_ENTRY_SET at most, and one record is added. -/
theorem effect_trapsTo (s : State) : TrapsTo s (Effect bits bank s) where
  entry c inst := {
    launch := rfl
    memory := fun h => h
    flags := fun k _ he => by
      show (s.sr ||| s.launch.srEntrySet).getLsbD k = _
      rw [BitVec.getLsbD_or, he, Bool.or_false]
    mode := fun h => by
      show (s.sr ||| s.launch.srEntrySet).getLsbD Config.srJq = true
      rw [BitVec.getLsbD_or, show s.sr.getLsbD Config.srJq = true from h, Bool.true_or]
    fpscr := fun _ h => h
    bank := fun _ => rfl
    records := .inr ⟨_, rfl⟩ }
  ends inst := { Effect.refl (bits := bits) (bank := bank) s with records := .inr ⟨_, rfl⟩ }

/-! ## The shapes of instruction -/

/-- The result answers only states of the effect. -/
abbrev HasEffect (bits : List Nat) (bank : Bool) (s : State) (r : Result) : Prop := Answers (Effect bits bank s) r

theorem effect_raise (c : Cause) : HasEffect bits bank s (raise c s) := answers_raise (effect_trapsTo s) c

/-- An update that ends by advancing. -/
theorem effect_retire (h : Effect bits bank s t) (l : Len) : HasEffect bits bank s (.next (t.retire l)) :=
  answers_next (h.retire l)

/-- An update of no part that counts. -/
theorem effect_quiet (e : u.core = s.core) : HasEffect bits bank s (.next u) :=
  answers_next ((Effect.refl s).of_core e)

theorem effect_quiet_retire (l : Len) (e : u.core = s.core) : HasEffect bits bank s (.next (u.retire l)) :=
  effect_retire ((Effect.refl s).of_core e) l

theorem effect_inForm (l : Len) {r : Result} (h : HasEffect bits bank s r) : HasEffect bits bank s (inForm l s r) :=
  answers_inForm (effect_trapsTo s) h

theorem effect_notInSlot {r : Result} (h : HasEffect bits bank s r) : HasEffect bits bank s (notInSlot s r) :=
  answers_notInSlot (effect_trapsTo s) fun _ => h

theorem effect_fpuGuard {r : Result} (h : HasEffect bits bank s r) : HasEffect bits bank s (fpuGuard s r) :=
  answers_fpuGuard (effect_trapsTo s) h

theorem effect_onlyWhenPr {pr : Bool} {r : Result} (h : HasEffect bits bank s r) :
    HasEffect bits bank s (onlyWhenPr pr s r) :=
  answers_onlyWhenPr (effect_trapsTo s) h

theorem effect_writeReg (l : Len) {d : BitVec 5} {v : QWord} : HasEffect bits bank s (writeReg l d v s) :=
  effect_inForm l (effect_quiet_retire l rfl)

theorem effect_writeT (l : Len) {b : Bool} (hk : Config.srT ∈ bits) : HasEffect bits bank s (writeT l b s) :=
  effect_inForm l (effect_retire ((Effect.refl s).setT b hk) l)

theorem effect_writeRegT (l : Len) {d : BitVec 5} {r : QWord × Bool} (hk : Config.srT ∈ bits) :
    HasEffect bits bank s (writeRegT l d r s) :=
  effect_inForm l (effect_retire (((Effect.refl s).setReg d r.1).setT r.2 hk) l)

theorem effect_load {a : QWord} {n : Nat} {k : Nat → Result} (h : ∀ v, HasEffect bits bank s (k v)) :
    HasEffect bits bank s (load a n s k) :=
  answers_load (effect_trapsTo s) fun v _ => h v

theorem effect_store {a : QWord} {n v : Nat} {k : State → Result}
    (h : ∀ t, Effect bits bank s t → HasEffect bits bank s (k t)) : HasEffect bits bank s (store a n v s k) :=
  answers_store (effect_trapsTo s) fun hs => h _ ((Effect.refl s).writeMem hs)

theorem effect_loadReg (l : Len) {z : Size} {ext : Size → Nat → QWord} {ea : QWord} {d : BitVec 5} :
    HasEffect bits bank s (loadReg l z ext ea d s) :=
  effect_inForm l (effect_load fun _ => effect_quiet_retire l rfl)

theorem effect_loadRegInc {z : Size} {ext : Size → Nat → QWord} {m d : BitVec 5} :
    HasEffect bits bank s (loadRegInc z ext m d s) :=
  effect_load fun _ => effect_quiet_retire .short rfl

theorem effect_storeReg (l : Len) {z : Size} {ea : QWord} {m : BitVec 5} :
    HasEffect bits bank s (storeReg l z ea m s) :=
  effect_inForm l (effect_store fun _ h => effect_retire h l)

theorem effect_storeDec {n : BitVec 5} {bytes : Nat} {v : QWord} : HasEffect bits bank s (storeDec n bytes v s) :=
  effect_store fun _ h => effect_retire (h.setReg n _) .short

theorem effect_leaIndex (l : Len) {z : Size} {m o d : BitVec 5} {disp : QWord} :
    HasEffect bits bank s (leaIndex l z m o disp d s) :=
  effect_inForm l (answers_ite (fun _ => effect_quiet_retire l rfl) fun _ => effect_quiet_retire l rfl)

/-- A load of a control register, by the effect of its write. -/
theorem effect_loadSys {m : BitVec 5} {write : DWord → State → State}
    (h : ∀ v t, Effect bits bank s t → Effect bits bank s (write v t)) :
    HasEffect bits bank s (loadSys m write s) :=
  effect_load fun _ => effect_retire (h _ _ ((Effect.refl s).setReg m _)) .short

theorem effect_loadSys_quiet {m : BitVec 5} {write : DWord → State → State}
    (e : ∀ v t, (write v t).core = t.core) : HasEffect bits bank s (loadSys m write s) :=
  effect_loadSys fun v t h => h.of_core (e v t)

theorem effect_loadSysChecked {m : BitVec 5} {bad : DWord → Bool} {why : Refusal} {write : DWord → State → State}
    (h : ∀ v t, bad v = false → Effect bits bank s t → Effect bits bank s (write v t)) :
    HasEffect bits bank s (loadSysChecked m bad why write s) :=
  effect_load fun _ => answers_ite (fun _ => answers_refused) fun hbad =>
    effect_retire (h _ _ (by simpa using hbad) ((Effect.refl s).setReg m _)) .short

theorem effect_branchIf {w : Nat} (l : Len) {cond : Bool} {label : BitVec w} :
    HasEffect bits bank s (branchIf l cond label s) := by
  refine effect_notInSlot ?_
  cases cond with
  | true => exact effect_quiet rfl
  | false => exact effect_quiet_retire l rfl

theorem effect_branchIfDelayed {w : Nat} (l : Len) {cond : Bool} {label : BitVec w} :
    HasEffect bits bank s (branchIfDelayed l cond label s) :=
  effect_notInSlot (effect_quiet rfl)

/-- A jump to one of two states, neither of which differs in a part that counts. -/
theorem effect_jump {c : Prop} [Decidable c] (et : t.core = s.core) (eu : u.core = s.core) :
    HasEffect bits bank s (notInSlot s (.next (if c then t else u))) := by
  refine effect_notInSlot (effect_quiet ?_)
  split
  · exact et
  · exact eu

theorem effect_rte : HasEffect (List.range 32) bank s (returnFromException s) :=
  answers_ite (fun hjq => answers_next ((((Effect.refl s).setSr hjq).setReg regSp s.sgr).of_core rfl))
    fun _ => answers_refused

theorem effect_casL (hk : Config.srT ∈ bits) : HasEffect bits bank s (execCasL s) :=
  answers_ite (fun _ => effect_raise _) fun _ => effect_load fun _ =>
    answers_ite (fun _ => effect_store fun _ h => effect_retire ((h.setT true hk).setReg 4#5 _) .short)
      fun _ => effect_retire (((Effect.refl s).setT false hk).setReg 4#5 _) .short

/-! ## The FPU -/

theorem effect_setFrReg {n : Nibble} {v : DWord} : HasEffect bits bank s (.next ((s.setFrReg n v).retire .short)) :=
  effect_quiet_retire .short rfl

theorem effect_setPair {n : Nibble} {v : QWord} : HasEffect bits bank s (.next ((s.setPair n v).retire .short)) :=
  effect_quiet_retire .short (s.core_setPair n v)

theorem effect_fpWrite {n : Nibble} {v : Bool → QWord} : HasEffect bits bank s (fpWrite n v s) :=
  answers_ite (fun _ => answers_needPair effect_setPair) fun _ => effect_setFrReg

theorem effect_fpArith1 {f : Bool → BitVec 2 → QWord → QWord} {n : Nibble} :
    HasEffect bits bank s (fpArith1 f n s) :=
  answers_fpRead fun _ _ => effect_fpWrite

theorem effect_fpArith2 {f : FpNumerics → Bool → BitVec 2 → QWord → QWord → QWord} {m n : Nibble} :
    HasEffect bits bank s (fpArith2 f m n s) :=
  answers_fpRead fun _ _ => answers_fpRead fun _ _ => effect_fpWrite

theorem effect_fpCompare {f : FpNumerics → Bool → BitVec 2 → QWord → QWord → Bool} {m n : Nibble}
    (hk : Config.srT ∈ bits) : HasEffect bits bank s (fpCompare f m n s) :=
  answers_fpRead fun _ _ => answers_fpRead fun _ _ => effect_retire ((Effect.refl s).setT _ hk) .short

theorem effect_fmovLoad {ea : QWord} {m : BitVec 5} {inc : Bool} {n : Nibble} :
    HasEffect bits bank s (fmovLoad ea m inc n s) :=
  answers_ite
    (fun _ => answers_needPair (answers_loadTwo (effect_trapsTo s) fun _ _ =>
      effect_quiet_retire .short ((State.core_fmovInc _ m inc).trans (State.core_setPair _ n _))))
    fun _ => effect_load fun _ => effect_quiet_retire .short (State.core_fmovInc _ m inc)

theorem effect_fmovStore {ea : QWord} {m : Nibble} {base : State → State} (e : ∀ t, (base t).core = t.core) :
    HasEffect bits bank s (fmovStore ea m base s) :=
  answers_ite
    (fun _ => answers_needPair (answers_storeTwo (effect_trapsTo s) fun h1 h2 =>
      effect_retire ((((Effect.refl s).writeMem h1).writeMem h2).of_core (e _)) .short))
    fun _ => effect_store fun t h => effect_retire (h.of_core (e t)) .short

theorem effect_fpulHalf {v : Option DWord} {l : Len} : HasEffect bits bank s (fpulHalf v l s) := by
  cases v with
  | some d => exact effect_quiet_retire l rfl
  | none => exact effect_quiet_retire l rfl

theorem effect_ftrc {m : BitVec 4} : HasEffect bits bank s (execFtrc m s) := by
  refine effect_fpuGuard (answers_fpRead fun dbl v => ?_)
  cases numToInt s.launch.fpNumerics dbl s.fpRm v with
  | some i => exact effect_quiet_retire .short rfl
  | none => exact effect_quiet_retire .short rfl

/-- A declared VE bit is none of the mode bits (93_implementation_defined.md U17). -/
theorem Launch.veBit_of_wf {l : Launch} {i : Nat} (h : l.wf = true) (hi : l.fpscrVeBit = some i) :
    i < 32 ∧ i ≠ Config.fpscrPr ∧ i ≠ Config.fpscrSz ∧ i ≠ Config.fpscrFr := by
  simp [Launch.wf, hi] at h
  tauto

/-- PSETMD4 with bit 0 clear sets no bit that the profile does not support. -/
theorem fpscrBad_setMode {l : Launch} {v : DWord} {imm : Nibble} (hf : imm.getLsbD 0 = false) (hwf : l.wf = true)
    (hv : fpscrBad l v = false) : fpscrBad l (setMode v imm) = false := by
  have hbit (i : Nat) : (setMode v imm).getLsbD i =
      if i = Config.fpscrFr then imm.getLsbD 0 else if i = Config.fpscrPr then imm.getLsbD 2
      else if i = Config.fpscrSz then imm.getLsbD 3 else (if imm.getLsbD 1 then 0#32 else v).getLsbD i := by
    simp only [setMode]
    rw [setBitTo_bit _ _ _ _ (by decide), setBitTo_bit _ _ _ _ (by decide), setBitTo_bit _ _ _ _ (by decide)]
  have hkept (i : Nat) (hi : v.getLsbD i = false) : (if imm.getLsbD 1 then 0#32 else v).getLsbD i = false := by
    split <;> simp [hi]
  simp only [fpscrBad, Bool.or_eq_false_iff] at hv ⊢
  refine ⟨by rw [hbit, if_pos rfl, hf], ?_⟩
  cases hve : l.fpscrVeBit with
  | none => rfl
  | some i =>
    obtain ⟨-, hpr, hsz, hfr⟩ := Launch.veBit_of_wf hwf hve
    have hvi : v.getLsbD i = false := by simpa [hve] using hv.2
    show (setMode v imm).getLsbD i = false
    rw [hbit, if_neg hfr, if_neg hpr, if_neg hsz, hkept i hvi]

theorem effect_psetmd4 {imm : BitVec 4} : HasEffect bits bank s (execPsetmd4 imm s) :=
  effect_fpuGuard (answers_ite (fun _ => answers_refused) fun hf =>
    effect_retire ((Effect.refl s).setFpscr (fpscrBad_setMode (by simpa using hf))) .short)

/-- LDC.L to SR is refused for a value without JQ. -/
theorem effect_ldcLIncRmSr {m : BitVec 4} : HasEffect (List.range 32) bank s (execLdcLIncRmSr m s) :=
  effect_loadSysChecked fun v t hbad h => h.setSr (by simpa using hbad)

/-! ## Every instruction -/

/-- Each instruction has the effect that its row lists: its shape says which parts it writes. -/
theorem exec_effect (s : State) (i : Instr) : HasEffect i.srBits i.writesBank s (exec i s) := by
  cases i with
  | addRmRn | addImm8sRn | negRmRn | subRmRn | andRmRn | andImm8R0 | extsBRn
  | extsBRmRn | extsL | extsWRn | extsWRmRn | extuBRn | extuBRmRn | extuLRn | extuWRn
  | extuWRmRn | movRmRn | movImm8sRn | movt | notRmRn | orRmRn | orImm8R0 | swapBRn
  | swapWRn | xorRmRn | xorImm8R0 | xtrctR4R0 | xtrctR0R4 | rot32 | shadRmRn | shldRmRn
  | shll2 | shll4 | shll8 | shll16 | shll32 | shlr2 | shlr4 | shlr8 | shlr16
  | shlr32 | stcSrRn | stcGbrRn | stcVbrRn | stcSsrRn | stcSpcRn | stcDbrRn
  | stcBankRn | stsMachRn | stsMaclRn | stsPrRn =>
    exact effect_writeReg .short
  | addRmRnCe | addImm16sRn | addImm16sRnHi | addRmImm8Rn | addRmImm6Rn | addRmRoRn
  | ldsh16zImm16Rn | ldsh16zImm16RnHi | mulRmImm8Rn | mulRmNegImm8Rn | mulRmImm6Rn
  | mulRmNegImm6Rn | mulRmRoRn | negRmRnCe | subRmRnCe | subRmImm8Rn | subRmImm6Rn
  | subRmRoRn | andImm12sRn | andRmImm8Rn | andRmImm6Rn | andRmNegImm8Rn | andRmNegImm6Rn
  | andRmRoRn | cselt | extsBRmRnCe | extsWRmRnCe | extuBRmRnCe | extuLRmRn | extuWRmRnCe
  | movRmRnCe | movImm16sRn | movImm16sRnHi | notRmRnCe | orRmRnCe | orImm12sRn
  | orRmImm8Rn | orRmImm6Rn | orRmRoRn | swapBRmRn | swapWRmRn | xorRmRnCe | xorImm12sRn
  | xorImm10sRn | xorRmImm8Rn | xorRmImm6Rn | xorRmRoRn | shadRmRnCe | shadRmImmRn
  | shadRmRoRn | shadL | shalQ | sharQ | sharRmRoRn | shldRmImm8Rn | shldRmImm6Rn
  | shldRmRoRn | shlrQ | shlrRmRoRn | leaBAtRmDisp8sRn | leaBAtRmDisp6Rn | leaWAtRmDisp8sRn
  | leaWAtRmDisp6Rn | leaLAtRmDisp8sRn | leaLAtRmDisp6Rn | leaQAtRmDisp8sRn | leaQAtRmDisp6Rn =>
    exact effect_writeReg .long
  | addcRmRn | dt | negcRmRn | subc | rotcl | rotcr | rotl | rotr | shal
  | sharRn | shll | shlrRn =>
    exact effect_writeRegT .short (srT_mem_srBits rfl)
  | addcRmRnCe | addv | negcRmRnCe | subv =>
    exact effect_writeRegT .long (srT_mem_srBits rfl)
  | cmpEqRmRn | cmpEqImm8sR0 | cmpGtRmRn | cmpHiRmRn | cmpPl | cmpPz | tstRmRn
  | tstImm8R0 =>
    exact effect_writeT .short (srT_mem_srBits rfl)
  | cmpEqRmRnCe | cmpEqImm12sRn | cmpEqImm10sRn | cmpGeImm12sRn | cmpGeImm10sRn | cmpGeRmRn
  | cmpGtImm12sRn | cmpGtImm10sRn | cmpGtRmRnCe | cmpHiImm12sRn | cmpHiRmRnCe
  | cmpHiImm10sRn | cmpHsImm12sRn | cmpHsRmRn | cmpHsImm10sRn | tstRmRnCe | tstImm12sRn
  | tstImm10sRn =>
    exact effect_writeT .long (srT_mem_srBits rfl)
  | div0s | div0u =>
    exact effect_retire
      ((((Effect.refl s).setQ _ (.head _)).setM _ (.tail _ (.head _))).setT _ (.tail _ (.tail _ (.head _)))) .short
  | div1 =>
    exact effect_retire ((((Effect.refl s).setReg 4#5 _).setQ _ (.head _)).setT _ (.tail _ (.head _))) .short
  | dmulsL | dmuluL | mulsW | muluW | clrmac | ldcRmGbr | ldcRmVbr | ldcRmSsr
  | ldcRmSpc | ldcRmDbr | ldsRmMach | ldsRmMacl | ldsRmPr | nop | nopImm =>
    exact effect_quiet_retire _ rfl
  | mulLRmRn =>
    exact effect_inForm .short (effect_quiet_retire _ rfl)
  | mulLRmRnCe =>
    exact effect_inForm .long (effect_quiet_retire _ rfl)
  | casL =>
    exact effect_casL (srT_mem_srBits rfl)
  | leaBAtPcR0Rn | mova =>
    exact effect_notInSlot (effect_writeReg .short)
  | leaBAtRmRoDisp4Rn | leaBAtRmRoRn | leaWAtRmRoDisp4Rn | leaWAtRmRoRn | leaLAtRmRoDisp4Rn
  | leaLAtRmRoRn | leaQAtRmRoDisp4Rn | leaQAtRmRoRn =>
    exact effect_leaIndex .long
  | movBRmAtR0Rn | movBRmAtRn | movLRmAtR0Rn | movLRmAtRnDisp4 | movLRmAtRn | movQRmAtR0Rn
  | movQRmAtRn | movQRmAtSpDisp4 | movWRmAtR0Rn | movWRmAtRn | movcaL =>
    exact effect_storeReg .short
  | movBRmDecRn | movLRmDecRn | movQRmDecRn | movWRmDecRn | pushQRm | pushQRmHi
  | stcLSrDecRn | stcLGbrDecRn | stcLVbrDecRn | stcLSsrDecRn | stcLSpcDecRn | stcLDbrDecRn
  | stcLBankDecRn | stsLMachDecRn | stsLMaclDecRn | stsLPrDecRn =>
    exact effect_storeDec
  | movBAtR0RmRn | movBAtRmRn | movLAtR0RmRn | movLAtRmDisp4Rn | movLAtRmRn | movQAtR0RmRn
  | movQAtRmRn | movQAtSpDisp4Rn | movWAtR0RmRn | movWAtRmRn =>
    exact effect_loadReg .short
  | movBIncRmRn | movLIncRmRn | movQIncRmRn | movWIncRmRn | popQRn | popQRnHi =>
    exact effect_loadRegInc
  | movBRmAtPcR0 | movLRmAtPcR0 | movQRmAtPcR0 | movWRmAtPcR0 =>
    exact effect_notInSlot (effect_storeReg .short)
  | movBAtPcR0Rn | movLAtPcDisp8Rn | movLAtPcR0Rn | movQAtPcR0Rn | movWAtPcR0Rn
  | movWAtPcDisp8Rn =>
    exact effect_notInSlot (effect_loadReg .short)
  | movBRmAtRnRoDisp4 | movBRmAtRnDisp8s | movBRmAtRnRo | movBRmAtRnDisp6 | movLRmAtRnRoDisp4
  | movLRmAtRnRoDisp8s | movLRmAtRnDisp8s | movLRmAtRnRo | movLRmAtRnDisp6 | movQRmAtRnRoDisp4
  | movQRmAtRnDisp8s | movQRmAtRnRo | movQRmAtRnDisp6 | movWRmAtRnRoDisp4 | movWRmAtRnDisp8s
  | movWRmAtRnRo | movWRmAtRnDisp6 =>
    exact effect_storeReg .long
  | movBAtRmRoDisp4Rn | movBAtRmDisp8sRn | movBAtRmRoRn | movBAtRmDisp6Rn | movLAtRmRoDisp4Rn
  | movLAtRmRoDisp8sRn | movLAtRmDisp8sRn | movLAtRmRoRn | movLAtRmDisp6Rn | movQAtRmRoDisp4Rn
  | movQAtRmDisp8sRn | movQAtRmRoRn | movQAtRmDisp6Rn | movWAtRmRoDisp4Rn | movWAtRmDisp8sRn
  | movWAtRmRoRn | movWAtRmDisp6Rn | movuBAtRmDisp8sRn | movuBAtRmDisp6Rn | movuWAtRmDisp8sRn
  | movuWAtRmDisp6Rn | movuLAtRmDisp8sRn | movuLAtRmDisp6Rn =>
    exact effect_loadReg .long
  | bfLabel8s | btLabel8s =>
    exact effect_branchIf .short
  | bfLabel16s | btLabel16s =>
    exact effect_branchIf .long
  | bfSLabel8s | btSLabel8s =>
    exact effect_branchIfDelayed .short
  | bfSLabel16s | btSLabel16s =>
    exact effect_branchIfDelayed .long
  | bra | braf | braNLabel8s | braNLabel16s | bsr | bsrf | bsrN | rts =>
    exact effect_notInSlot (effect_quiet rfl)
  | jmp | jsr =>
    exact effect_jump rfl rfl
  | brk =>
    exact effect_raise .breakpoint
  | clrs | sets =>
    exact effect_retire ((Effect.refl s).setS _ (.head _)) .short
  | clrt | sett =>
    exact effect_retire ((Effect.refl s).setT _ (.head _)) .short
  | ldcRmSr =>
    exact answers_ite (fun hjq => effect_retire ((Effect.refl s).setSr hjq) .short) fun _ => answers_refused
  | ldcRmBank =>
    exact effect_retire ((Effect.refl s).setBankReg _ _) .short
  | ldcLIncRmSr =>
    exact effect_ldcLIncRmSr
  | ldcLIncRmGbr =>
    exact effect_loadSys_quiet (write := fun v t => { t with gbr := v.signExtend 64 }) fun _ _ => rfl
  | ldcLIncRmVbr =>
    exact effect_loadSys_quiet (write := fun v t => { t with vbr := v.signExtend 64 }) fun _ _ => rfl
  | ldcLIncRmSsr =>
    exact effect_loadSys_quiet (write := fun v t => { t with ssr := v }) fun _ _ => rfl
  | ldcLIncRmSpc =>
    exact effect_loadSys_quiet (write := fun v t => { t with spc := v.signExtend 64 }) fun _ _ => rfl
  | ldcLIncRmBank m b =>
    exact effect_loadSys (write := fun v t => t.setBankReg b (v.signExtend 64)) fun _ _ h => h.setBankReg b _
  | ldcLIncRmDbr =>
    exact effect_loadSys_quiet (write := fun v t => { t with dbr := v.signExtend 64 }) fun _ _ => rfl
  | ldsRmFpul | flds =>
    exact effect_fpuGuard (effect_quiet_retire _ rfl)
  | ldsRmFpscr =>
    exact effect_fpuGuard (answers_ite (fun _ => answers_refused) fun hbad =>
      effect_retire ((Effect.refl s).setFpscr fun _ _ => by simpa using hbad) .short)
  | ldsLIncRmMach =>
    exact effect_loadSys_quiet (write := fun v t => { t with mach := v }) fun _ _ => rfl
  | ldsLIncRmMacl =>
    exact effect_loadSys_quiet (write := fun v t => { t with macl := v }) fun _ _ => rfl
  | ldsLIncRmPr =>
    exact effect_loadSys_quiet (write := fun v t => { t with pr := v.signExtend 64 }) fun _ _ => rfl
  | ldsLIncRmFpul =>
    exact effect_fpuGuard (effect_loadSys_quiet (write := fun v t => { t with fpul := v }) fun _ _ => rfl)
  | ldsLIncRmFpscr =>
    exact effect_fpuGuard (effect_loadSysChecked fun _ _ hbad h => h.setFpscr fun _ _ => hbad)
  | ldtlb =>
    exact answers_refused
  | rte =>
    exact effect_notInSlot effect_rte
  | sleep =>
    exact effect_quiet rfl
  | stsFpulRn | stsFpscrRn | sthf16 =>
    exact effect_fpuGuard (effect_writeReg .short)
  | stsLFpulDecRn | stsLFpscrDecRn =>
    exact effect_fpuGuard effect_storeDec
  | trapa =>
    exact effect_notInSlot (effect_raise _)
  | fabs | fneg | fsqrt =>
    exact effect_fpuGuard effect_fpArith1
  | fadd | fdiv | fmul | fsub =>
    exact effect_fpuGuard effect_fpArith2
  | fcmpeq | fcmpgt =>
    exact effect_fpuGuard (effect_fpCompare (srT_mem_srBits rfl))
  | fcnvds =>
    exact effect_onlyWhenPr (effect_fpuGuard (answers_needPair (effect_quiet_retire _ rfl)))
  | fcnvsd =>
    exact effect_onlyWhenPr (effect_fpuGuard (answers_needPair effect_setPair))
  | fipr | fmac =>
    exact effect_onlyWhenPr (effect_fpuGuard effect_setFrReg)
  | fldi0 | fldi1 | float =>
    exact effect_fpuGuard effect_fpWrite
  | fmov =>
    exact effect_fpuGuard (answers_ite (fun _ => answers_needPair (answers_needPair effect_setPair))
      fun _ => effect_setFrReg)
  | fmovSAtR0RmFrn | fmovSAtRmFrn | fmovSIncRmFrn =>
    exact effect_fpuGuard effect_fmovLoad
  | fmovSFrmAtR0Rn | fmovSFrmAtRn | fmovSFrmDecRn =>
    exact effect_fpuGuard (effect_fmovStore fun _ => rfl)
  | psetmd4 =>
    exact effect_psetmd4
  | ftrc =>
    exact effect_ftrc
  | ldhf16RmFpul =>
    exact effect_fpuGuard effect_fpulHalf
  | ldhf16Imm16Fpul =>
    exact effect_inForm .long (effect_fpuGuard effect_fpulHalf)
  | ldif16 =>
    exact effect_inForm .long (effect_fpuGuard (effect_quiet_retire _ rfl))

/-! ## Every step -/

/-- No effect is larger than that of an instruction which may write all of SR and the bank. -/
theorem Effect.largest (h : Effect bits bank s t) : Effect (List.range 32) true s t :=
  { h with
    flags := fun k hk _ => by
      have hge : 32 ≤ k := by simpa using hk
      exact (BitVec.getLsbD_of_ge t.sr k hge).trans (BitVec.getLsbD_of_ge s.sr k hge).symm
    bank := nofun }

theorem effect_runDecoded (d : DecodeResult) : HasEffect (List.range 32) true s (runDecoded s d) := by
  cases d with
  | instr i rest => exact (exec_effect s i).mono fun t h => h.largest
  | rejected e => exact answers_raiseIllegal (effect_trapsTo s)

theorem effect_fetchWord {a : QWord} {k : Word → Result} (h : ∀ w, HasEffect bits bank s (k w)) :
    HasEffect bits bank s (fetchWord a s k) := by
  refine answers_ite (fun _ => ?_) fun _ => answers_raiseFetch (effect_trapsTo s) a
  split
  · exact h _
  · exact answers_fault

theorem effect_fetchBytes {k : List Byte → Result} (h : ∀ bytes, HasEffect bits bank s (k bytes)) :
    HasEffect bits bank s (fetchBytes s k) :=
  effect_fetchWord fun _ => answers_ite (fun _ => effect_fetchWord fun _ => h _) fun _ => h _

/-- Every step has the effect of an instruction or of an exception. -/
theorem step_effect (s : State) : HasEffect (List.range 32) true s (step s) :=
  answers_ite (fun _ => answers_fault) fun _ => answers_ite (fun _ => answers_fault) fun _ =>
    answers_ite (fun _ => effect_fetchBytes fun _ => effect_runDecoded _) fun _ => answers_refused

/-- Settles O7: each part of the invariant is a field of the effect of a step. -/
theorem stepKeepsInvariant : Obligations.StepKeepsInvariant := by
  intro s t hinv hstep
  have h := step_effect s t hstep
  exact {
    launch := h.launch ▸ hinv.launch
    memory := h.memory hinv.memory
    mode := h.mode hinv.mode
    fpscr := h.launch ▸ h.fpscr hinv.launch hinv.fpscr }

/-- Settles O10: the launch and the records are fields of the effect of a step. -/
theorem stepKeepsLaunchAndRecords : Obligations.StepKeepsLaunchAndRecords := by
  intro s t hstep
  have h := step_effect s t hstep
  exact ⟨h.launch, h.records.imp_left And.left⟩

/-! ## Which instructions write a flag -/

/-- SR_ENTRY_SET of an admitted launch holds no named field (60_exceptions.md R434). -/
theorem Launch.srEntrySet_of_wf {l : Launch} (h : l.wf = true) {k : Nat} (hk : (0x80001303#32).getLsbD k = true) :
    l.srEntrySet.getLsbD k = false := by
  have hmask : l.srEntrySet &&& 0x80001303#32 = 0#32 := by
    simp only [Launch.wf, Bool.and_eq_true, decide_eq_true_eq] at h
    tauto
  have hbit := congrArg (·.getLsbD k) hmask
  simpa [BitVec.getLsbD_and, hk] using hbit

/-- What is not listed as writing SR.T may not write its bit. -/
theorem srT_not_mem_srBits {i : Instr} (h : i.writesT = false) : Config.srT ∉ i.srBits := by
  unfold Instr.srBits
  split
  · exact absurd (show true = false from h) nofun
  · exact absurd (show true = false from h) nofun
  · exact absurd (show true = false from h) nofun
  · decide
  · decide
  · exact absurd (show true = false from h) nofun
  · exact absurd (show true = false from h) nofun
  · exact absurd (show true = false from h) nofun
  · simp [h]

/-- The bits an instruction may write that does not write all of SR, with the instructions that may. -/
theorem mem_srBits_cases {i : Instr} {k : Nat} (h : i.writesSr = false) (hk : k ∈ i.srBits) :
    k = Config.srT ∨ (k = Config.srS ∧ (i = .sets ∨ i = .clrs)) ∨ (k = Config.srM ∧ (i = .div0s ∨ i = .div0u)) ∨
      (k = Config.srQ ∧ (i = .div0s ∨ i = .div0u ∨ i = .div1)) := by
  unfold Instr.srBits at hk
  split at hk
  · exact absurd (show true = false from h) nofun
  · exact absurd (show true = false from h) nofun
  · exact absurd (show true = false from h) nofun
  · simp_all
  · simp_all
  · simp at hk; tauto
  · simp at hk; tauto
  · simp at hk; tauto
  · split at hk <;> simp_all

/-- An instruction that may not write a named bit of SR leaves it, in a handler as well. -/
theorem exec_keeps_bit {i : Instr} {k : Nat} (hwf : s.launch.wf = true) (hexec : exec i s = .next t)
    (hnamed : (0x80001303#32).getLsbD k = true) (hk : k ∉ i.srBits) : t.sr.getLsbD k = s.sr.getLsbD k :=
  (exec_effect s i t hexec).flags k hk (Launch.srEntrySet_of_wf hwf hnamed)

/-- Settles O15: T is a named bit that only the listed instructions may write. -/
theorem onlyListedInstructionsWriteT : Obligations.OnlyListedInstructionsWriteT :=
  fun _ _ _ hwf hT hexec => exec_keeps_bit hwf hexec (by decide) (srT_not_mem_srBits hT)

/-- Settles O16: each of the bits is named, and may be written by the instructions of its list alone. -/
theorem onlyListedInstructionsWriteMode : Obligations.OnlyListedInstructionsWriteMode := by
  intro i s t hwf hsr hexec
  have hcases (k : Nat) := mem_srBits_cases (k := k) hsr
  refine ⟨?_, ?_, fun hsets hclrs => ?_, fun hdiv0s hdiv0u => ?_, fun hdiv0s hdiv0u hdiv1 => ?_⟩
  · exact exec_keeps_bit hwf hexec (by decide) fun hk => by
      simpa [Config.srJq, Config.srT, Config.srS, Config.srM, Config.srQ] using hcases _ hk
  · exact exec_keeps_bit hwf hexec (by decide) fun hk => by
      simpa [Config.srDq, Config.srT, Config.srS, Config.srM, Config.srQ] using hcases _ hk
  · exact exec_keeps_bit hwf hexec (by decide) fun hk => by
      simpa [Config.srT, Config.srS, Config.srM, Config.srQ, hsets, hclrs] using hcases _ hk
  · exact exec_keeps_bit hwf hexec (by decide) fun hk => by
      simpa [Config.srT, Config.srS, Config.srM, Config.srQ, hdiv0s, hdiv0u] using hcases _ hk
  · exact exec_keeps_bit hwf hexec (by decide) fun hk => by
      simpa [Config.srT, Config.srS, Config.srM, Config.srQ, hdiv0s, hdiv0u, hdiv1] using hcases _ hk

/-- Only the two moves to a banked register may write the bank. -/
theorem writesBank_eq_false {i : Instr} (h1 : ∀ m b, i ≠ .ldcRmBank m b) (h2 : ∀ m b, i ≠ .ldcLIncRmBank m b) :
    i.writesBank = false := by
  unfold Instr.writesBank
  split
  · exact absurd rfl (h1 _ _)
  · exact absurd rfl (h2 _ _)
  · rfl

/-- Settles O17: the bank is a field of the effect, and SGR changes only where a record is added. -/
theorem onlyBankMovesWriteTheBank : Obligations.OnlyBankMovesWriteTheBank := by
  intro i s t hexec
  have h := exec_effect s i t hexec
  refine ⟨fun h1 h2 => h.bank (writesBank_eq_false h1 h2), fun hrecords => ?_⟩
  rcases h.records with ⟨-, hsgr⟩ | ⟨r, hadded⟩
  · exact hsgr
  · simp [hrecords] at hadded

end Sys2Proof.Machine
end

section
/-!
What comes before an instruction's own effect: the refusal of its form in a delay slot (44_int_branch.md R300), and
FpuDisabled where the launch has no FPU (46_fpu.md R370).
-/
namespace Sys2Proof.Machine

theorem notInSlot_refuses {s : State} {k : Result} (h : s.pending ≠ none) :
    notInSlot s k = raise .slotIllegalInstruction s :=
  notInSlot_raises (Option.isSome_iff_ne_none.2 h)

/-- A form of two words is refused in a delay slot; every other instruction has one word. -/
theorem exec_long_inSlot {i : Instr} {s : State} (hslot : s.pending ≠ none) (hlen : (encode i).length = 2) :
    exec i s = raise .slotIllegalInstruction s := by
  cases i with
  | addRmRnCe | addImm16sRn | addImm16sRnHi | addRmImm8Rn | addRmImm6Rn | addRmRoRn | addcRmRnCe | addv
  | cmpEqRmRnCe | cmpEqImm12sRn | cmpEqImm10sRn | cmpGeImm12sRn | cmpGeImm10sRn | cmpGeRmRn | cmpGtImm12sRn
  | cmpGtImm10sRn | cmpGtRmRnCe | cmpHiImm12sRn | cmpHiRmRnCe | cmpHiImm10sRn | cmpHsImm12sRn | cmpHsRmRn
  | cmpHsImm10sRn | ldsh16zImm16Rn | ldsh16zImm16RnHi | mulRmImm8Rn | mulRmNegImm8Rn | mulRmImm6Rn | mulRmNegImm6Rn
  | mulRmRoRn | mulLRmRnCe | negRmRnCe | negcRmRnCe | subRmRnCe | subRmImm8Rn | subRmImm6Rn | subRmRoRn | subv
  | andImm12sRn | andRmImm8Rn | andRmImm6Rn | andRmNegImm8Rn | andRmNegImm6Rn | andRmRoRn | cselt | extsBRmRnCe
  | extsWRmRnCe | extuBRmRnCe | extuLRmRn | extuWRmRnCe | movRmRnCe | movImm16sRn | movImm16sRnHi | notRmRnCe
  | orRmRnCe | orImm12sRn | orRmImm8Rn | orRmImm6Rn | orRmRoRn | swapBRmRn | swapWRmRn | tstRmRnCe | tstImm12sRn
  | tstImm10sRn | xorRmRnCe | xorImm12sRn | xorImm10sRn | xorRmImm8Rn | xorRmImm6Rn | xorRmRoRn | shadRmRnCe
  | shadRmImmRn | shadRmRoRn | shadL | shalQ | sharQ | sharRmRoRn | shldRmImm8Rn | shldRmImm6Rn | shldRmRoRn | shlrQ
  | shlrRmRoRn | leaBAtRmRoDisp4Rn | leaBAtRmDisp8sRn | leaBAtRmRoRn | leaBAtRmDisp6Rn | leaWAtRmRoDisp4Rn
  | leaWAtRmDisp8sRn | leaWAtRmRoRn | leaWAtRmDisp6Rn | leaLAtRmRoDisp4Rn | leaLAtRmDisp8sRn | leaLAtRmRoRn
  | leaLAtRmDisp6Rn | leaQAtRmRoDisp4Rn | leaQAtRmDisp8sRn | leaQAtRmRoRn | leaQAtRmDisp6Rn | movBRmAtRnRoDisp4
  | movBRmAtRnDisp8s | movBAtRmRoDisp4Rn | movBAtRmDisp8sRn | movBRmAtRnRo | movBRmAtRnDisp6 | movBAtRmRoRn
  | movBAtRmDisp6Rn | movLRmAtRnRoDisp4 | movLRmAtRnRoDisp8s | movLRmAtRnDisp8s | movLAtRmRoDisp4Rn
  | movLAtRmRoDisp8sRn | movLAtRmDisp8sRn | movLRmAtRnRo | movLRmAtRnDisp6 | movLAtRmRoRn | movLAtRmDisp6Rn
  | movQRmAtRnRoDisp4 | movQAtRmRoDisp4Rn | movQRmAtRnDisp8s | movQAtRmDisp8sRn | movQRmAtRnRo | movQAtRmRoRn
  | movQRmAtRnDisp6 | movQAtRmDisp6Rn | movWRmAtRnRoDisp4 | movWAtRmRoDisp4Rn | movWRmAtRnDisp8s | movWAtRmDisp8sRn
  | movWRmAtRnRo | movWRmAtRnDisp6 | movWAtRmRoRn | movWAtRmDisp6Rn | movuBAtRmDisp8sRn | movuBAtRmDisp6Rn
  | movuWAtRmDisp8sRn | movuWAtRmDisp6Rn | movuLAtRmDisp8sRn | movuLAtRmDisp6Rn | bfLabel16s | bfSLabel16s
  | braNLabel16s | bsrN | btLabel16s | btSLabel16s | ldhf16Imm16Fpul | ldif16 =>
    exact notInSlot_refuses hslot
  | _ => exact absurd (show 1 = 2 from hlen) (by decide)

/-- Settles O13: the forms of two words, then each instruction that sets PC or has a PC operand. -/
theorem delaySlotRefusesForms : Obligations.DelaySlotRefusesForms := by
  intro s hslot
  refine ⟨fun i => exec_long_inSlot hslot, ?_⟩
  refine ⟨fun _ => ?_, fun _ => ?_, fun _ => ?_, fun _ => ?_, fun _ => ?_, fun _ => ?_, fun _ => ?_, fun _ => ?_,
    fun _ => ?_, fun _ => ?_, fun _ => ?_, ?_, ?_, fun _ => ?_, fun _ => ?_, fun _ => ?_, fun _ => ?_, fun _ _ => ?_,
    fun _ => ?_, fun _ => ?_, fun _ => ?_, fun _ => ?_, fun _ => ?_, fun _ => ?_, fun _ _ => ?_, fun _ => ?_⟩
  all_goals exact notInSlot_refuses hslot

/-- Settles O14: the profile is checked first, but for the mode and the form of the instructions that need one. -/
theorem noFpuMeansFpuDisabled : Obligations.NoFpuMeansFpuDisabled := by
  intro s hfpu
  have hguard {k : Result} : fpuGuard s k = raise .fpuDisabled s := fpuGuard_raises hfpu
  refine ⟨fun _ => hguard, fun _ _ => hguard, fun _ _ => hguard, fun _ _ => hguard,
    fun _ hpr => (onlyWhenPr_next hpr).trans hguard, fun _ hpr => (onlyWhenPr_next hpr).trans hguard,
    fun _ _ => hguard, fun _ _ hpr => (onlyWhenPr_next hpr).trans hguard, fun _ => hguard, fun _ => hguard,
    fun _ => hguard, fun _ => hguard, fun _ _ hpr => (onlyWhenPr_next hpr).trans hguard, fun _ _ => hguard,
    fun _ _ => hguard, fun _ _ => hguard, fun _ _ => hguard, fun _ _ => hguard, fun _ _ => hguard, fun _ _ => hguard,
    fun _ _ => hguard, fun _ => hguard, fun _ => hguard, fun _ _ => hguard, fun _ => hguard, fun _ => hguard,
    fun _ => hguard, fun _ hslot => (inForm_next (l := .long) fun _ => hslot).trans hguard,
    fun _ hslot => (inForm_next (l := .long) fun _ => hslot).trans hguard, fun _ => hguard, fun _ => hguard,
    fun _ => hguard, fun _ => hguard, fun _ => hguard, fun _ => hguard, fun _ => hguard, fun _ => hguard,
    fun _ => hguard⟩

end Sys2Proof.Machine
end

section
/-!
The addressing modes (30_encoding.md R104 to R112) and the integer arithmetic (40_int_arith_compare.md): each
instruction is a write of a register, of SR.T or of both, so what is left to say is the value written, as an integer.
-/
namespace Sys2Proof.Machine

/-! ## Integers modulo 2^64 -/

/-- The integer may be given in any form. -/
theorem Wraps.congr {W : Nat} {x y : Int} {v : QWord} (h : Wraps W x v) (e : x = y) : Wraps W y v := e ▸ h

/-- A value wraps its own integer. -/
theorem wraps_toInt (v : QWord) : Wraps 64 v.toInt v := (BitVec.toInt_bmod_cancel v).symm

theorem wraps_ofNat (k : Nat) : Wraps 64 k (BitVec.ofNat 64 k) := BitVec.toInt_ofNat' k

theorem Wraps.add {x y : Int} {a b : QWord} (ha : Wraps 64 x a) (hb : Wraps 64 y b) : Wraps 64 (x + y) (a + b) := by
  unfold Wraps at *
  rw [BitVec.toInt_add, ha, hb, Int.add_bmod_bmod, Int.bmod_add_bmod]

theorem Wraps.mul {x y : Int} {a b : QWord} (ha : Wraps 64 x a) (hb : Wraps 64 y b) : Wraps 64 (x * y) (a * b) := by
  unfold Wraps at *
  rw [BitVec.toInt_mul, ha, hb, Int.mul_bmod_bmod, Int.bmod_mul_bmod]

/-- A size as a scale. -/
theorem wraps_scale (z : Size) : Wraps 64 z.bytes z.scale := wraps_ofNat z.bytes

theorem wraps_zeroExt (v : BitVec 8) : Wraps 64 v.toNat (zeroExt v) :=
  (wraps_toInt _).congr (zeroExt_toInt v (by decide))

/-- Clearing the low two bits rounds down to a multiple of 4. -/
theorem clearLow2_toNat (v : QWord) : (v &&& ~~~3#64).toNat = v.toNat / 4 * 4 := by
  have hmask : ∀ i < 64, (~~~3#64).getLsbD i = decide (2 ≤ i) := by decide
  have e : v &&& ~~~3#64 = (v >>> 2) <<< 2 := by
    apply BitVec.eq_of_getLsbD_eq
    intro i hi
    rw [BitVec.getLsbD_and, hmask i hi]
    by_cases h : 2 ≤ i
    · simp [hi, h, Nat.not_lt.2 h]
    · simp [hi, h, Nat.lt_of_not_le h]
  have := v.isLt
  rw [e, BitVec.toNat_shiftLeft, BitVec.toNat_ushiftRight, Nat.shiftRight_eq_div_pow, Nat.shiftLeft_eq]
  omega

theorem Wraps.clearLow2 {x : Int} {a : QWord} (h : Wraps 64 x a) : Wraps 64 (x - x % 4) (a &&& ~~~3#64) := by
  unfold Wraps at *
  have hn := clearLow2_toNat a
  rw [BitVec.toInt_eq_toNat_bmod] at h ⊢
  have hmod : (a.toNat : Int) % (2 ^ 64 : Nat) = x % (2 ^ 64 : Nat) := by
    rw [← Int.bmod_emod, h, Int.bmod_emod]
  exact bmod_congr (by rw [hn]; omega)

/-! ## Addresses -/

theorem wraps_pcOperand (s : State) (l : Len) : Wraps 64 (s.pc.toInt + (l.bytes + 2 : Nat)) (s.pcOperand l) :=
  (wraps_toInt s.pc).add (wraps_ofNat _)

/-- The PC operand of a 16-bit form. -/
theorem wraps_pcOperand_short (s : State) : Wraps 64 (s.pc.toInt + 4) (s.pcOperand .short) := wraps_pcOperand s .short

theorem wraps_pcOperandAligned (s : State) :
    Wraps 64 (s.pc.toInt + 4 - (s.pc.toInt + 4) % 4) s.pcOperandAligned :=
  (wraps_pcOperand_short s).clearLow2

theorem wraps_eaPcR0 (s : State) : Wraps 64 (s.pc.toInt + 4 + (s.reg 0#5).toInt) s.eaPcR0 :=
  (wraps_pcOperand_short s).add (wraps_toInt _)

theorem wraps_eaPcDispW (s : State) (disp : BitVec 8) :
    Wraps 64 (s.pc.toInt + 4 + 2 * (disp.toNat : Int)) (s.eaPcDispW disp) :=
  (wraps_pcOperand_short s).add ((wraps_scale .w).mul (wraps_zeroExt disp))

theorem wraps_eaPcDispL (s : State) (disp : BitVec 8) :
    Wraps 64 (s.pc.toInt + 4 - (s.pc.toInt + 4) % 4 + 4 * (disp.toNat : Int)) (s.eaPcDispL disp) :=
  (wraps_pcOperandAligned s).add ((wraps_scale .l).mul (wraps_zeroExt disp))

theorem wraps_eaDisp (s : State) (z : Size) (r : BitVec 5) (disp : QWord) :
    Wraps 64 ((s.reg r).toInt + disp.toInt * z.bytes) (s.eaDisp z r disp) :=
  ((wraps_toInt _).add ((wraps_scale z).mul (wraps_toInt disp))).congr (by rw [Int.mul_comm])

/-- The index mode for an index and a scale in their own integers. -/
theorem wraps_index (s : State) (base : BitVec 5) (disp : QWord) {i k : Int} {idx scale : QWord}
    (hi : Wraps 64 i idx) (hk : Wraps 64 k scale) :
    Wraps 64 ((s.reg base).toInt + (i + disp.toInt) * k) (s.reg base + (idx + disp) * scale) :=
  (wraps_toInt _).add ((hi.add (wraps_toInt disp)).mul hk)

/-- Settles O21: each address is a sum of products of parts that wrap their integers. -/
theorem effectiveAddresses : Obligations.EffectiveAddresses := by
  intro s z m o disp disp8
  refine ⟨wraps_pcOperand_short s, wraps_pcOperand s .long, (wraps_toInt _).add (wraps_toInt _), wraps_eaPcR0 s,
    wraps_eaPcDispW s disp8, wraps_eaPcDispL s disp8, wraps_eaDisp s z m disp, fun h0 h15 => ?_, ?_, ?_⟩
  · simpa [State.eaIndex, h0, h15] using wraps_index s m disp (wraps_toInt (s.reg o)) (wraps_scale z)
  · simpa [State.eaIndex] using wraps_index s m disp (wraps_ofNat 0) (wraps_scale z)
  · simpa [State.eaIndex] using wraps_index s m disp (wraps_toInt (s.reg 0#5)) (wraps_ofNat 1)

/-! ## Sums, differences and products -/

section
variable {l : Len} {i : Instr} {s : State} {d : BitVec 5} {a b : QWord} {q : Bool} {x y : Int}

theorem runs_addW (ha : a.toInt = x) (hb : b.toInt = y) (he : exec i s = writeReg l d (addW (s.width q) a b) s)
    (hl : l = .long → s.pending = none) : Runs l i s [.reg d] fun t => Wraps (s.width q) (x + y) (t.reg d) :=
  runs_writeReg (P := Wraps (s.width q) (x + y)) he hl (ha ▸ hb ▸ addW_toInt _ a b (s.width_le q))

theorem runs_subW (ha : a.toInt = x) (hb : b.toInt = y) (he : exec i s = writeReg l d (subW (s.width q) a b) s)
    (hl : l = .long → s.pending = none) : Runs l i s [.reg d] fun t => Wraps (s.width q) (x - y) (t.reg d) :=
  runs_writeReg (P := Wraps (s.width q) (x - y)) he hl (ha ▸ hb ▸ subW_toInt _ a b (s.width_le q))

theorem runs_mulW (ha : a.toInt = x) (hb : b.toInt = y) (he : exec i s = writeReg l d (mulW (s.width q) a b) s)
    (hl : l = .long → s.pending = none) : Runs l i s [.reg d] fun t => Wraps (s.width q) (x * y) (t.reg d) :=
  runs_writeReg (P := Wraps (s.width q) (x * y)) he hl (ha ▸ hb ▸ mulW_toInt _ a b (s.width_le q))

theorem runs_negW (ha : a.toInt = x) (he : exec i s = writeReg l d (negW (s.width q) a) s)
    (hl : l = .long → s.pending = none) : Runs l i s [.reg d] fun t => Wraps (s.width q) (-x) (t.reg d) :=
  runs_writeReg (P := Wraps (s.width q) (-x)) he hl (ha ▸ negW_toInt _ a (s.width_le q))
end

/-- Settles O22: the width by its rule, each form by the operation it writes. -/
theorem addSubNegMulRun : Obligations.AddSubNegMulRun := by
  intro s
  refine ⟨fun q => ⟨s.width_cases q, fun h => by simp [State.width_r7 h]⟩, ?_⟩
  have imm8 (v : BitVec 8) : (zeroExt v).toInt = v.toNat := zeroExt_toInt v (by decide)
  have imm6 (v : BitVec 6) : (zeroExt v).toInt = v.toNat := zeroExt_toInt v (by decide)
  refine ⟨fun m n => ?_, fun q m n hslot => ?_, fun imm n => ?_, fun imm n hslot => ?_, fun imm n hslot => ?_,
    fun m imm n hslot => ?_, fun m imm n hslot => ?_, fun q m o n hslot => ?_, fun m imm n hslot => ?_,
    fun m imm n hslot => ?_, fun m imm n hslot => ?_, fun m imm n hslot => ?_, fun q m o n hslot => ?_,
    fun m n => ?_, fun q m n hslot => ?_, fun m n => ?_, fun q m n hslot => ?_, fun m imm n hslot => ?_,
    fun m imm n hslot => ?_, fun q m o n hslot => ?_⟩
  · exact runs_addW rfl rfl rfl nofun
  · exact runs_addW rfl rfl rfl fun _ => hslot
  · exact runs_addW rfl (signExt_toInt imm (by decide)) rfl nofun
  · exact runs_addW rfl (signExt_toInt imm (by decide)) rfl fun _ => hslot
  · exact runs_addW rfl (signExt_toInt imm (by decide)) rfl fun _ => hslot
  · exact runs_addW rfl (imm8 imm) rfl fun _ => hslot
  · exact runs_addW rfl (imm6 imm) rfl fun _ => hslot
  · exact runs_addW rfl rfl rfl fun _ => hslot
  · exact runs_mulW rfl (imm8 imm) rfl fun _ => hslot
  · exact runs_mulW rfl (onesExt_toInt imm (by decide)) rfl fun _ => hslot
  · exact runs_mulW rfl (imm6 imm) rfl fun _ => hslot
  · exact runs_mulW rfl (onesExt_toInt imm (by decide)) rfl fun _ => hslot
  · exact runs_mulW rfl rfl rfl fun _ => hslot
  · exact runs_negW rfl rfl nofun
  · exact runs_negW rfl rfl fun _ => hslot
  · exact runs_subW rfl rfl rfl nofun
  · exact runs_subW rfl rfl rfl fun _ => hslot
  · exact runs_subW rfl (imm8 imm) rfl fun _ => hslot
  · exact runs_subW rfl (imm6 imm) rfl fun _ => hslot
  · exact runs_subW rfl rfl rfl fun _ => hslot

end Sys2Proof.Machine
end

section
/-!
Sums and differences with a flag, the division step, the products in MACH:MACL, and the moves of 64 bits
(40_int_arith_compare.md, 41_int_logic_move.md).
-/
namespace Sys2Proof.Machine

section
variable {l : Len} {i : Instr} {s : State} {d : BitVec 5} {a b : QWord} {q : Bool}

/-! ## Carry, borrow and overflow -/

/-- An instruction that writes a sum with its carry. -/
theorem runs_addcW (he : exec i s = writeRegT l d (addcW (s.width q) a b s.flagT) s)
    (hl : l = .long → s.pending = none) : Runs l i s [.reg d, .t] fun t =>
      Wraps (s.width q) (a.toInt + b.toInt + (s.flagT.toNat : Int)) (t.reg d) ∧
        t.flagT = decide (2 ^ s.width q ≤ unsignedLow (s.width q) a + unsignedLow (s.width q) b + s.flagT.toNat) :=
  runs_writeRegT (P := fun v c => Wraps (s.width q) (a.toInt + b.toInt + (s.flagT.toNat : Int)) v ∧
      c = decide (2 ^ s.width q ≤ unsignedLow (s.width q) a + unsignedLow (s.width q) b + s.flagT.toNat)) he hl
    ⟨addcW_toInt _ a b _ (s.width_le q), addcW_carry _ a b _⟩

/-- An instruction that writes a difference with its borrow. -/
theorem runs_subcW (he : exec i s = writeRegT l d (subcW (s.width q) a b s.flagT) s)
    (hl : l = .long → s.pending = none) : Runs l i s [.reg d, .t] fun t =>
      Wraps (s.width q) (a.toInt - b.toInt - (s.flagT.toNat : Int)) (t.reg d) ∧
        t.flagT = decide (unsignedLow (s.width q) a < unsignedLow (s.width q) b + s.flagT.toNat) :=
  runs_writeRegT (P := fun v c => Wraps (s.width q) (a.toInt - b.toInt - (s.flagT.toNat : Int)) v ∧
      c = decide (unsignedLow (s.width q) a < unsignedLow (s.width q) b + s.flagT.toNat)) he hl
    ⟨subcW_toInt _ a b _ (s.width_le q), subcW_borrow _ a b _⟩

/-- NEGC is the difference from zero. -/
theorem runs_negcW (he : exec i s = writeRegT l d (subcW (s.width q) 0#64 a s.flagT) s)
    (hl : l = .long → s.pending = none) : Runs l i s [.reg d, .t] fun t =>
      Wraps (s.width q) (-a.toInt - (s.flagT.toNat : Int)) (t.reg d) ∧
        t.flagT = decide (0 < unsignedLow (s.width q) a + s.flagT.toNat) :=
  (runs_subcW he hl).mono (List.Subset.refl _) fun t h => by simpa [unsignedLow] using h

/-- A result does not overflow exactly when it is in the signed range. -/
theorem outsideSigned_eq_false (W : Nat) (x : Int) :
    outsideSigned W x = false ↔ -2 ^ (W - 1) ≤ x ∧ x < 2 ^ (W - 1) := by
  simp [outsideSigned]

/-- An instruction that writes a sum with its signed overflow. -/
theorem runs_addvW (he : exec i s = writeRegT l d (addvW (s.width q) a b) s) (hl : l = .long → s.pending = none) :
    Runs l i s [.reg d, .t] fun t => Wraps (s.width q) (a.toInt + b.toInt) (t.reg d) ∧
      (t.flagT = false ↔ -2 ^ (s.width q - 1) ≤ signedLow (s.width q) a + signedLow (s.width q) b ∧
        signedLow (s.width q) a + signedLow (s.width q) b < 2 ^ (s.width q - 1)) :=
  runs_writeRegT (P := fun v c => Wraps (s.width q) (a.toInt + b.toInt) v ∧
      (c = false ↔ -2 ^ (s.width q - 1) ≤ signedLow (s.width q) a + signedLow (s.width q) b ∧
        signedLow (s.width q) a + signedLow (s.width q) b < 2 ^ (s.width q - 1))) he hl
    ⟨addvW_toInt _ a b (s.width_le q), addvW_overflow _ a b (s.width_le q) ▸ outsideSigned_eq_false _ _⟩

/-- An instruction that writes a difference with its signed overflow. -/
theorem runs_subvW (he : exec i s = writeRegT l d (subvW (s.width q) a b) s) (hl : l = .long → s.pending = none) :
    Runs l i s [.reg d, .t] fun t => Wraps (s.width q) (a.toInt - b.toInt) (t.reg d) ∧
      (t.flagT = false ↔ -2 ^ (s.width q - 1) ≤ signedLow (s.width q) a - signedLow (s.width q) b ∧
        signedLow (s.width q) a - signedLow (s.width q) b < 2 ^ (s.width q - 1)) :=
  runs_writeRegT (P := fun v c => Wraps (s.width q) (a.toInt - b.toInt) v ∧
      (c = false ↔ -2 ^ (s.width q - 1) ≤ signedLow (s.width q) a - signedLow (s.width q) b ∧
        signedLow (s.width q) a - signedLow (s.width q) b < 2 ^ (s.width q - 1))) he hl
    ⟨subvW_toInt _ a b (s.width_le q), subvW_overflow _ a b (s.width_le q) ▸ outsideSigned_eq_false _ _⟩

/-- A difference is written as zero exactly when the operands have the same low bits. -/
theorem subW_eq_zero_iff (W : Nat) (a b : QWord) (h : W ≤ 64) : subW W a b = 0#64 ↔ eqW W a b = true := by
  have hwb : subW W a b = 0#64 ↔ lowW W a - lowW W b = 0#W := by
    rw [← BitVec.toInt_inj, subW, wb_toInt _ h, ← BitVec.toInt_inj]
    simp
  rw [hwb, BitVec.sub_eq_iff_eq_add, BitVec.zero_add, eqW, beq_iff_eq]

/-- DT subtracts one and tests the result. -/
theorem runs_dt (n : BitVec 4) (s : State) : Runs .short (.dt n) s [.reg (lo n), .t] fun t =>
    Wraps (s.width false) ((s.reg (lo n)).toInt - 1) (t.reg (lo n)) ∧ (t.flagT = true ↔ t.reg (lo n) = 0#64) :=
  runs_writeRegT (P := fun v c => Wraps (s.width false) ((s.reg (lo n)).toInt - 1) v ∧ (c = true ↔ v = 0#64)) rfl nofun
    ⟨subW_toInt _ _ 1#64 (s.width_le false), (subW_eq_zero_iff _ _ 1#64 (s.width_le false)).symm⟩

/-- Settles O23: each form by the operation it writes with its flag. -/
theorem carryAndOverflowRun : Obligations.CarryAndOverflowRun := fun s =>
  ⟨fun _ _ => runs_addcW rfl nofun, fun _ _ _ hslot => runs_addcW rfl fun _ => hslot,
    fun _ _ _ hslot => runs_addvW rfl fun _ => hslot, fun n => runs_dt n s, fun _ _ => runs_negcW rfl nofun,
    fun _ _ _ hslot => runs_negcW rfl fun _ => hslot, fun _ _ => runs_subcW rfl nofun,
    fun _ _ _ hslot => runs_subvW rfl fun _ => hslot⟩

/-! ## The division step -/

/-- Each flag of SR reads back past the writes of the others. -/
theorem flags_of_sets (s : State) (x y z : Bool) :
    (((s.setQ x).setM y).setT z).flagQ = x ∧ (((s.setQ x).setM y).setT z).flagM = y ∧
      (((s.setQ x).setM y).setT z).flagT = z := by
  refine ⟨?_, ?_, State.flagT_setT _ z⟩
  · exact (keeps_setT _ z Part.q (by decide)).trans ((keeps_setM _ y Part.q (by decide)).trans (State.flagQ_setQ s x))
  · exact (keeps_setT _ z Part.m (by decide)).trans (State.flagM_setM _ y)

/-- An instruction that writes Q, M and T. -/
theorem runs_setQMT {x y z : Bool} (he : exec i s = .next ((((s.setQ x).setM y).setT z).retire l)) :
    Runs l i s [.q, .m, .t] fun t => t.flagQ = x ∧ t.flagM = y ∧ t.flagT = z :=
  runs_next he (by simpa using flags_of_sets s x y z)
    ((keeps_setQ s x).trans ((keeps_setM _ y).trans (keeps_setT _ z))) rfl rfl

theorem exec_div1 (s : State) : exec .div1 s = .next ((((s.setReg 4#5
      ((divStep (lowDword (s.reg 4#5)) (lowDword (s.reg 5#5)) s.flagQ s.flagM s.flagT).result.signExtend 64)).setQ
      (divStep (lowDword (s.reg 4#5)) (lowDword (s.reg 5#5)) s.flagQ s.flagM s.flagT).q).setT
      (divStep (lowDword (s.reg 4#5)) (lowDword (s.reg 5#5)) s.flagQ s.flagM s.flagT).t).retire .short) := rfl

/-- An instruction that writes R4, Q and T. -/
theorem runs_setR4QT {v : QWord} {x z : Bool} (he : exec i s = .next ((((s.setReg 4#5 v).setQ x).setT z).retire l)) :
    Runs l i s [.reg 4#5, .q, .t] fun t => t.reg 4#5 = v ∧ t.flagQ = x ∧ t.flagT = z := by
  refine runs_next he ?_ ((keeps_setReg s 4#5 v).trans ((keeps_setQ _ x).trans (keeps_setT _ z))) rfl rfl
  rw [State.reg_retire, State.flagQ_retire, State.flagT_retire]
  exact ⟨State.reg_setReg_self s 4#5 v, (keeps_setT _ z Part.q (by decide)).trans (State.flagQ_setQ _ x),
    State.flagT_setT _ z⟩

/-- A shift by one of the low half with a bit entering depends on the low half alone. -/
theorem shiftIn_low (a : QWord) (c : Nat) : (2 * (a.toNat % 2 ^ 32) + c) % 2 ^ 32 = (2 * a.toNat + c) % 2 ^ 32 := by
  omega

/-- Settles O24: DIV0U and DIV0S by the flags they write, DIV1 by what one step of the division gives. -/
theorem divisionStepRuns : Obligations.DivisionStepRuns := by
  intro s
  refine ⟨runs_setQMT rfl, (runs_setQMT rfl).mono (List.Subset.refl _) fun t h => ?_,
    (runs_setR4QT (exec_div1 s)).mono (List.Subset.refl _) fun t h => ?_⟩
  · simpa [Bool.bne_eq_xor] using h
  · obtain ⟨hreg, hq, ht⟩ := h
    obtain ⟨hresult, hquot, htest⟩ := divStep_spec (lowDword (s.reg 4#5)) (lowDword (s.reg 5#5)) s.flagQ s.flagM s.flagT
    have hlow (a : QWord) : (lowDword a).toNat = a.toNat % 2 ^ 32 := by simp [lowDword]
    have htop (a : QWord) : (lowDword a).getLsbD 31 = a.getLsbD 31 := by simp [lowDword]
    rw [hlow, hlow, shiftIn_low] at hresult hquot
    rw [htop] at hquot
    refine ⟨?_, ?_, ?_⟩
    · rw [hreg]
      exact (BitVec.toInt_signExtend_of_le (by decide)).trans hresult
    · rw [hq]
      exact hquot
    · rw [hq, ht]
      exact htest

/-! ## Products in MACH and MACL -/

/-- A QWord is its two halves. -/
theorem halves_append (p : QWord) : (p.extractLsb' 32 32 ++ lowDword p : QWord) = p := by
  apply BitVec.eq_of_getLsbD_eq
  intro i hi
  simp only [lowDword, BitVec.getLsbD_append, BitVec.getLsbD_extractLsb', BitVec.getLsbD_setWidth]
  grind

/-- An instruction that leaves a QWord in MACH:MACL. -/
theorem runs_mac {p : QWord} {P : QWord → Prop}
    (he : exec i s = .next ({ s with mach := p.extractLsb' 32 32, macl := lowDword p }.retire l)) (hp : P p) :
    Runs l i s [.mach, .macl] fun t => P (t.mach ++ t.macl : QWord) :=
  runs_next he (by simpa [halves_append] using hp)
    ((keeps_mach s (p.extractLsb' 32 32)).trans (keeps_macl _ (lowDword p))) rfl rfl

/-- An instruction that writes MACL. -/
theorem runs_macl {v : DWord} {P : DWord → Prop} (he : exec i s = .next ({ s with macl := v }.retire l)) (hv : P v) :
    Runs l i s [.macl] fun t => P t.macl :=
  runs_next he (by simpa using hv) (keeps_macl s v) rfl rfl

/-- The signed product of two fields in twice their width is exact. -/
theorem mul_signExtend_toInt {w : Nat} (hw : 0 < w) (a b : BitVec w) :
    (a.signExtend (2 * w) * b.signExtend (2 * w)).toInt = a.toInt * b.toInt := by
  have hle := BitVec.toInt_mul_toInt_le (x := a) (y := b)
  have hge := BitVec.le_toInt_mul_toInt (x := a) (y := b)
  have hpow : (2 : Int) ^ (2 * w) = 4 * 2 ^ (w * 2 - 2) := by
    rw [show 2 * w = w * 2 - 2 + 2 by omega, pow_add]; ring
  have hpos : (0 : Int) < 2 ^ (w * 2 - 2) := by positivity
  rw [BitVec.toInt_mul, BitVec.toInt_signExtend_of_le (by omega), BitVec.toInt_signExtend_of_le (by omega)]
  apply Int.bmod_eq_of_le <;> push_cast <;> rw [hpow] <;> omega

/-- The unsigned product of two fields in twice their width is exact. -/
theorem mul_setWidth_toNat {w : Nat} (a b : BitVec w) :
    (a.setWidth (2 * w) * b.setWidth (2 * w)).toNat = a.toNat * b.toNat := by
  have hlt : a.toNat * b.toNat < 2 ^ (2 * w) := by
    rw [Nat.two_mul, pow_add]
    exact Nat.mul_lt_mul'' a.isLt b.isLt
  rw [BitVec.toNat_mul, BitVec.toNat_setWidth_of_le (by omega), BitVec.toNat_setWidth_of_le (by omega),
    Nat.mod_eq_of_lt hlt]

theorem lowDword_toInt (a : QWord) : (lowDword a).toInt = signedLow 32 a := lowW_toInt 32 a (by decide)

theorem lowDword_toNat (a : QWord) : (lowDword a).toNat = unsignedLow 32 a := lowW_toNat 32 a

theorem lowWord_toInt (a : QWord) : (lowWord a).toInt = signedLow 16 a := lowW_toInt 16 a (by decide)

theorem lowWord_toNat (a : QWord) : (lowWord a).toNat = unsignedLow 16 a := lowW_toNat 16 a

/-- The low half of a product. -/
theorem mul_lowDword_toNat (a b : QWord) : (lowDword a * lowDword b).toNat = a.toNat * b.toNat % 2 ^ 32 := by
  rw [BitVec.toNat_mul, lowDword_toNat, lowDword_toNat, unsignedLow, unsignedLow, ← Nat.mul_mod]

/-- MUL.L in either form. -/
theorem runs_mulL (he : exec i s = inForm l s (.next ({ s with macl := lowDword a * lowDword b }.retire l)))
    (hl : l = .long → s.pending = none) :
    Runs l i s [.macl] fun t => t.macl.toNat = a.toNat * b.toNat % 2 ^ 32 :=
  runs_macl (P := fun v => v.toNat = a.toNat * b.toNat % 2 ^ 32) (he.trans (inForm_next hl)) (mul_lowDword_toNat a b)
end

/-- Settles O25: each product is exact in the width it is written in. -/
theorem multipliesIntoMacRun : Obligations.MultipliesIntoMacRun := by
  refine fun s => ⟨fun m n => ?_, fun m n => ?_, fun m n => runs_mulL rfl nofun,
    fun m n hslot => runs_mulL rfl fun _ => hslot, fun m n => ?_, fun m n => ?_⟩
  · refine runs_mac (P := fun p => p.toInt = _) rfl ?_
    rw [← lowDword_toInt, ← lowDword_toInt]
    exact mul_signExtend_toInt (by decide) _ _
  · refine runs_mac (P := fun p => p.toNat = _) rfl ?_
    rw [← lowDword_toNat, ← lowDword_toNat]
    exact mul_setWidth_toNat _ _
  · refine runs_macl (P := fun v => v.toInt = _) rfl ?_
    rw [← lowWord_toInt, ← lowWord_toInt]
    exact mul_signExtend_toInt (by decide) _ _
  · refine runs_macl (P := fun v => v.toNat = _) rfl ?_
    rw [← lowWord_toNat, ← lowWord_toNat]
    exact mul_setWidth_toNat _ _

/-! ## Moves of 64 bits -/

/-- A field entering below a shift by 16 is added to it. -/
theorem shiftIn16_toNat (a : QWord) (imm : BitVec 16) :
    ((a <<< 16) ||| zeroExt imm).toNat = (65536 * a.toNat + imm.toNat) % 2 ^ 64 := by
  have hdisjoint : (a <<< 16) &&& zeroExt imm = 0#64 := by
    apply BitVec.eq_of_getLsbD_eq
    intro i hi
    by_cases h : i < 16
    · simp [h]
    · simp [zeroExt, BitVec.getLsbD_of_ge imm i (Nat.le_of_not_lt h)]
  rw [← BitVec.add_eq_or_of_and_eq_zero _ _ hdisjoint, BitVec.toNat_add, BitVec.toNat_shiftLeft,
    zeroExt_toNat imm (by decide), Nat.shiftLeft_eq]
  omega

/-- Settles O26: the value each writes, all 64 bits of it. -/
theorem movesAndSelectsRun : Obligations.MovesAndSelectsRun := by
  refine fun s => ⟨fun imm n hslot => ?_, fun imm n hslot => ?_, fun m n => ?_, fun m n hslot => ?_,
    fun m o n hslot => ?_⟩
  · exact runs_writeReg (P := fun v => v.toNat = _) rfl (fun _ => hslot) (shiftIn16_toNat _ imm)
  · exact runs_writeReg (P := fun v => v.toNat = _) rfl (fun _ => hslot) (shiftIn16_toNat _ imm)
  · exact runs_writeReg (P := (· = s.reg (lo m))) rfl nofun rfl
  · exact runs_writeReg (P := (· = s.reg m)) rfl (fun _ => hslot) rfl
  · exact runs_writeReg (P := (· = if s.flagT = true then s.reg m else s.reg o)) rfl (fun _ => hslot) rfl

end Sys2Proof.Machine
end

section
/-!
Compares, bitwise operations and shifts (40_int_arith_compare.md, 41_int_logic_move.md, 42_int_shift.md): what each
writes, as an order of integers, or bit by bit.
-/
namespace Sys2Proof.Machine

section
variable {l : Len} {i : Instr} {s : State} {d : BitVec 5} {a b : QWord} {q : Bool}

/-! ## Compares -/

/-- A sign-extended immediate of up to 32 bits is the value of its low half. -/
theorem signedLow32_signExt {w : Nat} (imm : BitVec w) (h : w ≤ 32) : signedLow 32 (signExt imm) = imm.toInt := by
  have hpow : (2 : Int) ^ (w - 1) ≤ 2 ^ 31 := pow_le_pow_right₀ (by decide) (by omega)
  have hle := BitVec.le_toInt imm
  have hlt := BitVec.toInt_lt (x := imm)
  have hval := signExt_toInt imm (by omega)
  rw [signedLow_of_range (by rw [hval]; omega), hval]

/-- At either operation width such an immediate keeps its value. -/
theorem signedLow_signExt {w : Nat} (s : State) (q : Bool) (imm : BitVec w) (h : w ≤ 32) :
    signedLow (s.width q) (signExt imm) = imm.toInt := by
  rcases s.width_cases q with e | e
  · rw [e, signedLow32_signExt imm h]
  · rw [e, signedLow, BitVec.toInt_bmod_cancel, signExt_toInt imm (by omega)]

theorem signedLow_zero (W : Nat) : signedLow W 0#64 = 0 := by simp [signedLow]

variable {x y : Int}

theorem runs_eqW (ha : signedLow (s.width q) a = x) (hb : signedLow (s.width q) b = y)
    (he : exec i s = writeT l (eqW (s.width q) a b) s) (hl : l = .long → s.pending = none) :
    Runs l i s [.t] fun t => (t.flagT = true ↔ x = y) :=
  runs_writeT (P := fun c => c = true ↔ x = y) he hl
    (by rw [eqW_eq _ a b (s.width_le q), decide_eq_true_iff, ← ha, ← hb]; rfl)

theorem runs_geW (ha : signedLow (s.width q) a = x) (hb : signedLow (s.width q) b = y)
    (he : exec i s = writeT l (geW (s.width q) a b) s) (hl : l = .long → s.pending = none) :
    Runs l i s [.t] fun t => (t.flagT = true ↔ y ≤ x) :=
  runs_writeT (P := fun c => c = true ↔ y ≤ x) he hl
    (by rw [geW_eq _ a b (s.width_le q), decide_eq_true_iff, ← ha, ← hb]; rfl)

theorem runs_gtW (ha : signedLow (s.width q) a = x) (hb : signedLow (s.width q) b = y)
    (he : exec i s = writeT l (gtW (s.width q) a b) s) (hl : l = .long → s.pending = none) :
    Runs l i s [.t] fun t => (t.flagT = true ↔ y < x) :=
  runs_writeT (P := fun c => c = true ↔ y < x) he hl
    (by rw [gtW_eq _ a b (s.width_le q), decide_eq_true_iff, ← ha, ← hb]; rfl)

theorem runs_hiW (he : exec i s = writeT l (hiW (s.width q) a b) s) (hl : l = .long → s.pending = none) :
    Runs l i s [.t] fun t => (t.flagT = true ↔ unsignedLow (s.width q) b < unsignedLow (s.width q) a) :=
  runs_writeT (P := fun c => c = true ↔ unsignedLow (s.width q) b < unsignedLow (s.width q) a) he hl
    (by rw [hiW_eq, decide_eq_true_iff]; rfl)

theorem runs_hsW (he : exec i s = writeT l (hsW (s.width q) a b) s) (hl : l = .long → s.pending = none) :
    Runs l i s [.t] fun t => (t.flagT = true ↔ unsignedLow (s.width q) b ≤ unsignedLow (s.width q) a) :=
  runs_writeT (P := fun c => c = true ↔ unsignedLow (s.width q) b ≤ unsignedLow (s.width q) a) he hl
    (by rw [hsW_eq, decide_eq_true_iff]; rfl)
end

/-- Settles O28: each compare by the relation it writes to T. -/
theorem comparesRun : Obligations.ComparesRun := by
  intro s
  refine ⟨fun m n => ?_, fun q m n hslot => ?_, fun imm => ?_, fun imm n hslot => ?_, fun q imm n hslot => ?_,
    fun imm n hslot => ?_, fun q imm n hslot => ?_, fun q m n hslot => ?_, fun m n => ?_, fun imm n hslot => ?_,
    fun q imm n hslot => ?_, fun q m n hslot => ?_, fun m n => ?_, fun imm n hslot => ?_, fun q m n hslot => ?_,
    fun q imm n hslot => ?_, fun imm n hslot => ?_, fun q m n hslot => ?_, fun q imm n hslot => ?_, fun n => ?_,
    fun n => ?_⟩
  · exact runs_eqW rfl rfl rfl nofun
  · exact runs_eqW rfl rfl rfl fun _ => hslot
  · exact runs_eqW rfl (signedLow_signExt s false imm (by decide)) rfl nofun
  · exact runs_eqW rfl (signedLow_signExt s false imm (by decide)) rfl fun _ => hslot
  · exact runs_eqW rfl (signedLow_signExt s q imm (by decide)) rfl fun _ => hslot
  · exact runs_geW rfl (signedLow_signExt s false imm (by decide)) rfl fun _ => hslot
  · exact runs_geW rfl (signedLow_signExt s q imm (by decide)) rfl fun _ => hslot
  · exact runs_geW rfl rfl rfl fun _ => hslot
  · exact runs_gtW rfl rfl rfl nofun
  · exact runs_gtW rfl (signedLow_signExt s false imm (by decide)) rfl fun _ => hslot
  · exact runs_gtW rfl (signedLow_signExt s q imm (by decide)) rfl fun _ => hslot
  · exact runs_gtW rfl rfl rfl fun _ => hslot
  · exact runs_hiW rfl nofun
  · exact runs_hiW rfl fun _ => hslot
  · exact runs_hiW rfl fun _ => hslot
  · exact runs_hiW rfl fun _ => hslot
  · exact runs_hsW rfl fun _ => hslot
  · exact runs_hsW rfl fun _ => hslot
  · exact runs_hsW rfl fun _ => hslot
  · exact runs_gtW rfl (signedLow_zero _) rfl nofun
  · exact runs_geW rfl (signedLow_zero _) rfl nofun

/-! ## Bitwise operations -/

/-- The bits of a value, by a function of their number. -/
def HasBits (f : Nat → Bool) (v : QWord) : Prop := ∀ i < 64, v.getLsbD i = f i

theorem hasBits_self (v : QWord) : HasBits v.getLsbD v := fun _ _ => rfl

theorem hasBits_zeroExt {w : Nat} (imm : BitVec w) : HasBits imm.getLsbD (zeroExt imm) := by
  intro i hi
  simp [zeroExt, hi]

theorem hasBits_signExt {w : Nat} (imm : BitVec w) (h0 : 0 < w) :
    HasBits (fun i => imm.getLsbD (min i (w - 1))) (signExt imm) :=
  fun _ hi => wb_bit imm h0 hi

theorem hasBits_onesExt {w : Nat} (imm : BitVec w) :
    HasBits (fun i => decide (w ≤ i) || imm.getLsbD i) (onesExt imm) :=
  fun _ hi => onesExt_bit imm hi

section
variable {l : Len} {i : Instr} {s : State} {d : BitVec 5} {a b : QWord} {q : Bool} {f g : Nat → Bool}

/-- The bits of the operation's width are bits of a register. -/
theorem State.min_width_lt (s : State) (q : Bool) (i : Nat) : min i (s.width q - 1) < 64 := by
  have := s.width_le q
  have := s.width_pos q
  omega

theorem runs_andW (ha : HasBits f a) (hb : HasBits g b) (he : exec i s = writeReg l d (andW (s.width q) a b) s)
    (hl : l = .long → s.pending = none) :
    Runs l i s [.reg d] fun t => BitsAt (s.width q) (fun i => f i && g i) (t.reg d) :=
  runs_writeReg (P := BitsAt (s.width q) fun i => f i && g i) he hl fun i hi => by
    rw [andW_bit _ a b (s.width_pos q) hi, ha _ (s.min_width_lt q i), hb _ (s.min_width_lt q i)]

theorem runs_orW (ha : HasBits f a) (hb : HasBits g b) (he : exec i s = writeReg l d (orW (s.width q) a b) s)
    (hl : l = .long → s.pending = none) :
    Runs l i s [.reg d] fun t => BitsAt (s.width q) (fun i => f i || g i) (t.reg d) :=
  runs_writeReg (P := BitsAt (s.width q) fun i => f i || g i) he hl fun i hi => by
    rw [orW_bit _ a b (s.width_pos q) hi, ha _ (s.min_width_lt q i), hb _ (s.min_width_lt q i)]

theorem runs_xorW (ha : HasBits f a) (hb : HasBits g b) (he : exec i s = writeReg l d (xorW (s.width q) a b) s)
    (hl : l = .long → s.pending = none) :
    Runs l i s [.reg d] fun t => BitsAt (s.width q) (fun i => f i ^^ g i) (t.reg d) :=
  runs_writeReg (P := BitsAt (s.width q) fun i => f i ^^ g i) he hl fun i hi => by
    rw [xorW_bit _ a b (s.width_pos q) hi, ha _ (s.min_width_lt q i), hb _ (s.min_width_lt q i)]

theorem runs_notW (he : exec i s = writeReg l d (notW (s.width q) a) s) (hl : l = .long → s.pending = none) :
    Runs l i s [.reg d] fun t => BitsAt (s.width q) (fun i => !a.getLsbD i) (t.reg d) :=
  runs_writeReg (P := BitsAt (s.width q) fun i => !a.getLsbD i) he hl fun _ hi => notW_bit _ a (s.width_pos q) hi

theorem runs_tstW (ha : HasBits f a) (hb : HasBits g b) (he : exec i s = writeT l (tstW (s.width q) a b) s)
    (hl : l = .long → s.pending = none) :
    Runs l i s [.t] fun t => (t.flagT = true ↔ ∀ i < s.width q, (f i && g i) = false) := by
  refine runs_writeT (P := fun c => c = true ↔ ∀ i < s.width q, (f i && g i) = false) he hl ?_
  rw [tstW_iff]
  refine forall₂_congr fun i hi => ?_
  have hi64 := Nat.lt_of_lt_of_le hi (s.width_le q)
  rw [ha i hi64, hb i hi64]
end

/-- Settles O29: each form by the operation on the bits of its two operands. -/
theorem bitwiseAndTestsRun : Obligations.BitwiseAndTestsRun := by
  intro s
  have reg (r : BitVec 5) := hasBits_self (s.reg r)
  have imm10s (v : BitVec 10) := hasBits_signExt v (by decide)
  have imm12s (v : BitVec 12) := hasBits_signExt v (by decide)
  refine ⟨fun m n => ?_, fun imm => ?_, fun imm n hslot => ?_, fun m imm n hslot => ?_, fun m imm n hslot => ?_,
    fun m imm n hslot => ?_, fun m imm n hslot => ?_, fun q m o n hslot => ?_, fun m n => ?_, fun q m n hslot => ?_,
    fun m n => ?_, fun q m n hslot => ?_, fun imm => ?_, fun imm n hslot => ?_, fun m imm n hslot => ?_,
    fun m imm n hslot => ?_, fun q m o n hslot => ?_, fun m n => ?_, fun q m n hslot => ?_, fun imm => ?_,
    fun imm n hslot => ?_, fun q imm n hslot => ?_, fun m imm n hslot => ?_, fun m imm n hslot => ?_,
    fun q m o n hslot => ?_, fun m n => ?_, fun q m n hslot => ?_, fun imm => ?_, fun imm n hslot => ?_,
    fun q imm n hslot => ?_⟩
  · exact runs_andW (reg _) (reg _) rfl nofun
  · exact runs_andW (reg _) (hasBits_zeroExt imm) rfl nofun
  · exact runs_andW (reg _) (imm12s imm) rfl fun _ => hslot
  · exact runs_andW (reg _) (hasBits_zeroExt imm) rfl fun _ => hslot
  · exact runs_andW (reg _) (hasBits_zeroExt imm) rfl fun _ => hslot
  · exact runs_andW (reg _) (hasBits_onesExt imm) rfl fun _ => hslot
  · exact runs_andW (reg _) (hasBits_onesExt imm) rfl fun _ => hslot
  · exact runs_andW (reg _) (reg _) rfl fun _ => hslot
  · exact runs_notW rfl nofun
  · exact runs_notW rfl fun _ => hslot
  · exact runs_orW (reg _) (reg _) rfl nofun
  · exact runs_orW (reg _) (reg _) rfl fun _ => hslot
  · exact runs_orW (reg _) (hasBits_zeroExt imm) rfl nofun
  · exact runs_orW (reg _) (imm12s imm) rfl fun _ => hslot
  · exact runs_orW (reg _) (hasBits_zeroExt imm) rfl fun _ => hslot
  · exact runs_orW (reg _) (hasBits_zeroExt imm) rfl fun _ => hslot
  · exact runs_orW (reg _) (reg _) rfl fun _ => hslot
  · exact runs_xorW (reg _) (reg _) rfl nofun
  · exact runs_xorW (reg _) (reg _) rfl fun _ => hslot
  · exact runs_xorW (reg _) (hasBits_zeroExt imm) rfl nofun
  · exact runs_xorW (reg _) (imm12s imm) rfl fun _ => hslot
  · exact runs_xorW (reg _) (imm10s imm) rfl fun _ => hslot
  · exact runs_xorW (reg _) (hasBits_zeroExt imm) rfl fun _ => hslot
  · exact runs_xorW (reg _) (hasBits_zeroExt imm) rfl fun _ => hslot
  · exact runs_xorW (reg _) (reg _) rfl fun _ => hslot
  · exact runs_tstW (reg _) (reg _) rfl nofun
  · exact runs_tstW (reg _) (reg _) rfl fun _ => hslot
  · exact runs_tstW (reg _) (hasBits_zeroExt imm) rfl nofun
  · exact runs_tstW (reg _) (imm12s imm) rfl fun _ => hslot
  · exact runs_tstW (reg _) (imm10s imm) rfl fun _ => hslot

end Sys2Proof.Machine
end

section
/-!
Extensions, exchanges, shifts and address calculations (41_int_logic_move.md, 42_int_shift.md, 43_int_loadstore.md): the
value each writes, as an integer or bit by bit.
-/
namespace Sys2Proof.Machine

section
variable {l : Len} {i : Instr} {s : State} {d : BitVec 5} {a b v : QWord} {q : Bool}

/-! ## Extensions and exchanges -/

/-- An instruction that writes a value with this signed integer. -/
theorem runs_toInt {x : Int} (hv : v.toInt = x) (he : exec i s = writeReg l d v s) (hl : l = .long → s.pending = none) :
    Runs l i s [.reg d] fun t => (t.reg d).toInt = x :=
  runs_writeReg (P := fun v => v.toInt = x) he hl hv

/-- An instruction that writes a value with this unsigned integer. -/
theorem runs_toNat {x : Nat} (hv : v.toNat = x) (he : exec i s = writeReg l d v s) (hl : l = .long → s.pending = none) :
    Runs l i s [.reg d] fun t => (t.reg d).toNat = x :=
  runs_writeReg (P := fun v => v.toNat = x) he hl hv

/-- An instruction that writes these bits, the top one repeated. -/
theorem runs_bits {W : Nat} {f : Nat → Bool} (hv : BitsAt W f v) (he : exec i s = writeReg l d v s)
    (hl : l = .long → s.pending = none) : Runs l i s [.reg d] fun t => BitsAt W f (t.reg d) :=
  runs_writeReg (P := BitsAt W f) he hl hv

theorem extsB_toInt (a : QWord) : ((lowByte a).signExtend 64).toInt = signedLow 8 a :=
  (BitVec.toInt_signExtend_of_le (by decide)).trans (lowW_toInt 8 a (by decide))

theorem extsW_toInt (a : QWord) : ((lowWord a).signExtend 64).toInt = signedLow 16 a :=
  (BitVec.toInt_signExtend_of_le (by decide)).trans (lowWord_toInt a)

theorem extsL_toInt (a : QWord) : ((lowDword a).signExtend 64).toInt = signedLow 32 a :=
  (BitVec.toInt_signExtend_of_le (by decide)).trans (lowDword_toInt a)

theorem extuB_toNat (a : QWord) : ((lowByte a).setWidth 64).toNat = unsignedLow 8 a :=
  (BitVec.toNat_setWidth_of_le (by decide)).trans (lowW_toNat 8 a)

theorem extuW_toNat (a : QWord) : ((lowWord a).setWidth 64).toNat = unsignedLow 16 a :=
  (BitVec.toNat_setWidth_of_le (by decide)).trans (lowWord_toNat a)

theorem extuL_toNat (a : QWord) : ((lowDword a).setWidth 64).toNat = unsignedLow 32 a :=
  (BitVec.toNat_setWidth_of_le (by decide)).trans (lowDword_toNat a)

/-- At all 64 bits none is repeated. -/
theorem bitsAt_64 {f : Nat → Bool} (h : ∀ i < 64, v.getLsbD i = f i) : BitsAt 64 f v := by
  intro i hi
  rw [h i hi, Nat.min_eq_left (by omega)]

theorem swapBytes_bits (a : QWord) :
    BitsAt 64 (fun i => a.getLsbD (if i < 8 then i + 8 else if i < 16 then i - 8 else i)) (swapBytes a) := by
  refine bitsAt_64 fun i hi => ?_
  simp only [swapBytes, BitVec.getLsbD_append, BitVec.getLsbD_extractLsb']
  grind

theorem swapWords_bits (a : QWord) :
    BitsAt 64 (fun i => a.getLsbD (if i < 16 then i + 16 else if i < 32 then i - 16 else i)) (swapWords a) := by
  refine bitsAt_64 fun i hi => ?_
  simp only [swapWords, BitVec.getLsbD_append, BitVec.getLsbD_extractLsb']
  grind

theorem extractMiddle_bits (m n : QWord) :
    BitsAt 32 (fun i => if i < 16 then n.getLsbD (i + 16) else m.getLsbD (i - 16))
      ((extractMiddle m n).signExtend 64) := by
  intro i hi
  refine (wb_bit (extractMiddle m n) (by decide) hi).trans ?_
  have hmin : min i (32 - 1) < 32 := by omega
  generalize min i (32 - 1) = j at hmin
  simp only [extractMiddle, BitVec.getLsbD_append, BitVec.getLsbD_extractLsb']
  grind
end

/-- Settles O30: each by the value it writes, as an integer or by its bits. -/
theorem extensionsAndSwapsRun : Obligations.ExtensionsAndSwapsRun := fun _ =>
  ⟨fun _ => runs_toInt (extsB_toInt _) rfl nofun, fun _ _ => runs_toInt (extsB_toInt _) rfl nofun,
    fun _ _ hslot => runs_toInt (extsB_toInt _) rfl fun _ => hslot, fun _ => runs_toInt (extsL_toInt _) rfl nofun,
    fun _ => runs_toInt (extsW_toInt _) rfl nofun, fun _ _ => runs_toInt (extsW_toInt _) rfl nofun,
    fun _ _ hslot => runs_toInt (extsW_toInt _) rfl fun _ => hslot,
    fun _ => runs_toNat (extuB_toNat _) rfl nofun, fun _ _ => runs_toNat (extuB_toNat _) rfl nofun,
    fun _ _ hslot => runs_toNat (extuB_toNat _) rfl fun _ => hslot, fun _ => runs_toNat (extuL_toNat _) rfl nofun,
    fun _ _ hslot => runs_toNat (extuL_toNat _) rfl fun _ => hslot, fun _ => runs_toNat (extuW_toNat _) rfl nofun,
    fun _ _ => runs_toNat (extuW_toNat _) rfl nofun, fun _ _ hslot => runs_toNat (extuW_toNat _) rfl fun _ => hslot,
    fun _ => runs_bits (swapBytes_bits _) rfl nofun, fun _ _ hslot => runs_bits (swapBytes_bits _) rfl fun _ => hslot,
    fun _ => runs_bits (swapWords_bits _) rfl nofun, fun _ _ hslot => runs_bits (swapWords_bits _) rfl fun _ => hslot,
    runs_bits (extractMiddle_bits _ _) rfl nofun, runs_bits (extractMiddle_bits _ _) rfl nofun⟩

/-! ## One-bit shifts -/

section
variable {i : Instr} {s : State} {d : BitVec 5} {a : QWord} {b c : Bool}

/-- A shift left by one with a bit `c` entering at bit 0. -/
theorem runs_shiftLeft1 (hb : b = c) (he : exec i s = writeRegT .short d (shiftLeft1 (s.width false) a b) s) :
    Runs .short i s [.reg d, .t] fun t =>
      BitsAt (s.width false) (fun i => if i = 0 then c else a.getLsbD (i - 1)) (t.reg d) ∧
        t.flagT = a.getLsbD (s.width false - 1) :=
  runs_writeRegT (P := fun v o => BitsAt (s.width false) (fun i => if i = 0 then c else a.getLsbD (i - 1)) v ∧
      o = a.getLsbD (s.width false - 1)) he nofun
    ⟨fun _ hi => hb ▸ shiftLeft1_bit _ a b (s.width_pos false) hi, shiftLeft1_out _ a b (s.width_pos false)⟩

/-- The bits after a shift right by one with `b` entering at the top. -/
theorem shiftRight1_bits (W : Nat) (a : QWord) (b : Bool) (h0 : 0 < W) :
    BitsAt W (fun i => if i = W - 1 then b else a.getLsbD (i + 1)) (shiftRight1 W a b).1 := by
  intro i hi
  rw [shiftRight1_bit W a b h0 hi]
  by_cases h : W - 1 ≤ i
  · simp [h]
  · have hmin : min i (W - 1) = i := by omega
    have hne : i ≠ W - 1 := by omega
    simp [h, hmin, hne]

/-- A shift right by one with a bit `c` entering at the top. -/
theorem runs_shiftRight1 (hb : b = c) (he : exec i s = writeRegT .short d (shiftRight1 (s.width false) a b) s) :
    Runs .short i s [.reg d, .t] fun t =>
      BitsAt (s.width false) (fun i => if i = s.width false - 1 then c else a.getLsbD (i + 1)) (t.reg d) ∧
        t.flagT = a.getLsbD 0 :=
  runs_writeRegT (P := fun v o => BitsAt (s.width false)
      (fun i => if i = s.width false - 1 then c else a.getLsbD (i + 1)) v ∧ o = a.getLsbD 0) he nofun
    ⟨hb ▸ shiftRight1_bits _ a b (s.width_pos false), shiftRight1_out _ a b (s.width_pos false)⟩
end

/-- Settles O31: each by its direction and the bit that enters. -/
theorem oneBitShiftsRun : Obligations.OneBitShiftsRun := fun s =>
  ⟨fun _ => runs_shiftLeft1 rfl rfl, fun _ => runs_shiftRight1 rfl rfl,
    fun _ => runs_shiftLeft1 (topBit_eq _ _ (s.width_pos false)) rfl, fun _ => runs_shiftRight1 rfl rfl,
    fun _ => runs_shiftLeft1 rfl rfl, fun _ => runs_shiftLeft1 rfl rfl,
    fun _ => runs_shiftRight1 (topBit_eq _ _ (s.width_pos false)) rfl, fun _ => runs_shiftRight1 rfl rfl⟩

/-! ## Shifts by a fixed amount -/

/-- A shift left of the low bits is a product. -/
theorem shiftLeftW_wraps (W : Nat) (a : QWord) (k : Nat) (h : W ≤ 64) :
    Wraps W (a.toInt * 2 ^ k) (shiftLeftW W a k) := by
  rw [Wraps, shiftLeftW, wb_toInt _ h, BitVec.toInt_shiftLeft, lowW_toNat, Nat.shiftLeft_eq]
  apply bmod_congr
  push_cast
  rw [← Int.sub_mul]
  exact Dvd.dvd.mul_right (by simpa using low_dvd W a h) _

theorem runs_shiftLeftW {i : Instr} {s : State} {d : BitVec 5} {a : QWord} {k : Nat}
    (he : exec i s = writeReg .short d (shiftLeftW (s.width false) a k) s) :
    Runs .short i s [.reg d] fun t => Wraps (s.width false) (a.toInt * 2 ^ k) (t.reg d) :=
  runs_writeReg (P := Wraps (s.width false) (a.toInt * 2 ^ k)) he nofun
    (shiftLeftW_wraps _ a k (s.width_le false))

theorem runs_shiftRightW {i : Instr} {s : State} {d : BitVec 5} {a : QWord} {k : Nat}
    (he : exec i s = writeReg .short d (shiftRightW (s.width false) a k) s) :
    Runs .short i s [.reg d] fun t =>
      BitsAt (s.width false) (fun i => decide (i + k < s.width false) && a.getLsbD (i + k)) (t.reg d) :=
  runs_bits (fun _ hi => shiftRightW_bit _ a k (s.width_pos false) hi) he nofun

theorem shiftLeft_toNat (a : QWord) (k : Nat) : (a <<< k).toNat = a.toNat * 2 ^ k % 2 ^ 64 := by
  rw [BitVec.toNat_shiftLeft, Nat.shiftLeft_eq]

theorem shiftRight_toNat (a : QWord) (k : Nat) : (a >>> k).toNat = a.toNat / 2 ^ k := by
  rw [BitVec.toNat_ushiftRight, Nat.shiftRight_eq_div_pow]

theorem sshiftRight_toInt (a : QWord) (k : Nat) : (a.sshiftRight k).toInt = a.toInt / 2 ^ k := by
  rw [BitVec.toInt_sshiftRight, Int.shiftRight_eq_div_pow]
  simp

/-- Settles O32: the shifts at the operation width by products and bits, those of 64 bits by their integers. -/
theorem fixedShiftsRun : Obligations.FixedShiftsRun := fun _ =>
  ⟨fun _ => runs_shiftLeftW rfl, fun _ => runs_shiftLeftW rfl, fun _ => runs_shiftLeftW rfl,
    fun _ => runs_shiftLeftW rfl, fun _ => runs_shiftRightW rfl, fun _ => runs_shiftRightW rfl,
    fun _ => runs_shiftRightW rfl, fun _ => runs_shiftRightW rfl,
    fun _ _ _ hslot => runs_toNat (shiftLeft_toNat _ _) rfl fun _ => hslot,
    fun _ _ _ hslot => runs_toNat (shiftRight_toNat _ _) rfl fun _ => hslot,
    fun _ _ _ hslot => runs_toInt (sshiftRight_toInt _ _) rfl fun _ => hslot⟩

/-! ## Barrel shifts -/

section
variable {l : Len} {i : Instr} {s : State} {d : BitVec 5} {src amt : QWord} {q : Bool} {x y : Int}
  {c : Prop} [Decidable c]

/-- An arithmetic barrel shift, by an amount that is `x` on 64 bits and `y` on its low half. -/
theorem runs_barrelArith (hc : c ↔ (q || s.flagDq) = true) (hx : c → amt.toInt = x) (hy : ¬c → signedLow 32 amt = y)
    (he : exec i s = writeReg l d (s.barrel .arith q src amt) s) (hl : l = .long → s.pending = none) :
    Runs l i s [.reg d] fun t => Wraps 64 (if c then shifted src.toInt x 64
      else shifted (signedLow 32 src) y s.launch.shiftWidthDq0) (t.reg d) := by
  refine runs_toInt ?_ he hl
  refine (barrelShift_arith_toInt _ s.launch.shiftWidthDq0 src amt).trans ?_
  by_cases h : c
  · rw [if_pos h, if_pos (hc.1 h), hx h]
  · rw [if_neg h, if_neg (mt hc.2 h), hy h]

/-- A logical barrel shift, by an amount that is `x` on 64 bits and `y` on its low half. -/
theorem runs_barrelLogic (hc : c ↔ (q || s.flagDq) = true) (hx : c → amt.toInt = x) (hy : ¬c → signedLow 32 amt = y)
    (he : exec i s = writeReg l d (s.barrel .logic q src amt) s) (hl : l = .long → s.pending = none) :
    Runs l i s [.reg d] fun t => Wraps 64 (if c then shifted (src.toNat : Int) x 64
      else shifted (unsignedLow 32 src : Int) y s.launch.shiftWidthDq0) (t.reg d) := by
  refine runs_toInt ?_ he hl
  refine (barrelShift_logic_toInt _ s.launch.shiftWidthDq0 src amt).trans ?_
  by_cases h : c
  · rw [if_pos h, if_pos (hc.1 h), hx h]
  · rw [if_neg h, if_neg (mt hc.2 h), hy h]

omit [Decidable c] in
/-- The negated amount, on 64 bits or on its low half. -/
theorem negAmount_of (s : State) (q : Bool) (amt : QWord) (hc : c ↔ (q || s.flagDq) = true) :
    (c → (s.negAmount q amt).toInt = (-amt.toInt).bmod (2 ^ 64)) ∧
      (¬c → signedLow 32 (s.negAmount q amt) = (-amt.toInt).bmod (2 ^ 32)) := by
  refine ⟨fun h => ?_, fun h => ?_⟩
  · rw [State.negAmount, if_pos (hc.1 h), negAmount_wide]
  · rw [State.negAmount, if_neg (mt hc.2 h), negAmount_low]
end

/-- Settles O34: the shift of the source by the amount of each form, on 64 bits or on the low half. -/
theorem barrelShiftsRun : Obligations.BarrelShiftsRun := by
  intro s
  have hdq : s.flagDq = true ↔ (false || s.flagDq) = true := Iff.rfl
  have hq (q : Bool) : (q = true ∨ s.flagDq = true) ↔ (q || s.flagDq) = true := by simp
  have imm8 (v : BitVec 8) := signExt_toInt v (by decide)
  have imm8low (v : BitVec 8) := signedLow32_signExt v (by decide)
  have imm6 (v : BitVec 6) := signExt_toInt v (by decide)
  have imm6low (v : BitVec 6) := signedLow32_signExt v (by decide)
  have neg (q : Bool) (a : QWord) := negAmount_of s q a (hq q)
  refine ⟨fun m n => ?_, fun q m n hslot => ?_, fun m imm n hslot => ?_, fun q m o n hslot => ?_,
    fun q m o n hslot => ?_, fun m n => ?_, fun m imm n hslot => ?_, fun m imm n hslot => ?_,
    fun q m o n hslot => ?_, fun q m o n hslot => ?_, fun m imm n hslot => ?_⟩
  · exact runs_barrelArith hdq (fun _ => rfl) (fun _ => rfl) rfl nofun
  · exact runs_barrelArith (hq q) (fun _ => rfl) (fun _ => rfl) rfl fun _ => hslot
  · exact runs_barrelArith hdq (fun _ => imm8 imm) (fun _ => imm8low imm) rfl fun _ => hslot
  · exact runs_barrelArith (hq q) (fun _ => rfl) (fun _ => rfl) rfl fun _ => hslot
  · exact runs_barrelArith (hq q) (neg q _).1 (neg q _).2 rfl fun _ => hslot
  · exact runs_barrelLogic hdq (fun _ => rfl) (fun _ => rfl) rfl nofun
  · exact runs_barrelLogic hdq (fun _ => imm8 imm) (fun _ => imm8low imm) rfl fun _ => hslot
  · exact runs_barrelLogic hdq (fun _ => imm6 imm) (fun _ => imm6low imm) rfl fun _ => hslot
  · exact runs_barrelLogic (hq q) (fun _ => rfl) (fun _ => rfl) rfl fun _ => hslot
  · exact runs_barrelLogic (hq q) (neg q _).1 (neg q _).2 rfl fun _ => hslot
  · refine runs_toInt ((barrelShift_arith_toInt false _ _ _).trans ?_) rfl fun _ => hslot
    rw [imm6low]
    rfl

/-! ## Addresses as results -/

section
variable {l : Len} {i : Instr} {s : State} {m o d : BitVec 5} {disp : QWord} {x : Int}

/-- LEA with a displacement. -/
theorem runs_leaDisp (z : Size) (hdisp : disp.toInt = x) (he : exec i s = writeReg l d (s.eaDisp z m disp) s)
    (hl : l = .long → s.pending = none) :
    Runs l i s [.reg d] fun t => Wraps 64 ((s.reg m).toInt + x * z.bytes) (t.reg d) :=
  runs_toInt (hdisp ▸ wraps_eaDisp s z m disp) he hl

/-- LEA with an index register and a displacement. -/
theorem runs_leaIndexDisp (z : Size) (hdisp : disp.toInt = x) (he : exec i s = leaIndex l z m o disp d s)
    (hl : l = .long → s.pending = none) (h0 : o ≠ 0#5) (h15 : o ≠ 15#5) :
    Runs l i s [.reg d] fun t => Wraps 64 ((s.reg m).toInt + ((s.reg o).toInt + x) * z.bytes) (t.reg d) :=
  runs_leaIndex (P := Wraps 64 _) he hl h0 h15 (hdisp ▸ wraps_index s m disp (wraps_toInt _) (wraps_scale z))

/-- LEA with an index register alone. -/
theorem runs_leaIndexOnly (z : Size) (he : exec i s = leaIndex l z m o 0#64 d s) (hl : l = .long → s.pending = none)
    (h0 : o ≠ 0#5) (h15 : o ≠ 15#5) :
    Runs l i s [.reg d] fun t => Wraps 64 ((s.reg m).toInt + (s.reg o).toInt * z.bytes) (t.reg d) :=
  (runs_leaIndexDisp z (x := 0) rfl he hl h0 h15).mono (List.Subset.refl _) fun _ h => by simpa using h
end

theorem lo_eq_zero_iff (o : Nibble) : lo o = 0#5 ↔ o = 0#4 := by revert o; decide

theorem lo_eq_fifteen_iff (o : Nibble) : lo o = 15#5 ↔ o = 15#4 := by revert o; decide

theorem eaPcDispL_toNat (s : State) (disp : BitVec 8) :
    (s.eaPcDispL disp).toNat = ((s.pc.toNat + 4) % 2 ^ 64 / 4 * 4 + 4 * disp.toNat) % 2 ^ 64 := by
  rw [State.eaPcDispL, State.pcOperandAligned, BitVec.toNat_add, clearLow2_toNat, BitVec.toNat_mul,
    zeroExt_toNat disp (by decide), State.pcOperand, BitVec.toNat_add]
  simp [Size.scale, Size.bytes, Len.bytes]

/-- Settles O35: each form by its addressing mode, and the free value where the index has none. -/
theorem addressCalculationsRun : Obligations.AddressCalculationsRun := by
  intro s
  have index (o : Nibble) (h0 : o ≠ 0#4) : lo o ≠ 0#5 := mt (lo_eq_zero_iff o).1 h0
  have index15 (o : Nibble) (h15 : o ≠ 15#4) : lo o ≠ 15#5 := mt (lo_eq_fifteen_iff o).1 h15
  have free (o : Nibble) (h : o = 0#4 ∨ o = 15#4) : lo o = 0#5 ∨ lo o = 15#5 :=
    h.imp (lo_eq_zero_iff o).2 (lo_eq_fifteen_iff o).2
  have disp4 (v : BitVec 4) := zeroExt_toInt v (by decide)
  have disp6 (v : BitVec 6) := zeroExt_toInt v (by decide)
  have disp8 (v : BitVec 8) := signExt_toInt v (by decide)
  refine ⟨fun n hslot => runs_toInt (wraps_eaPcR0 s) (notInSlot_next hslot) nofun,
    fun m o disp n h0 h15 hslot => ?_, fun m disp n hslot => ?_, fun m o n h0 h15 hslot => ?_, fun m disp n hslot => ?_,
    fun m o disp n h0 h15 hslot => ?_, fun m disp n hslot => ?_, fun m o n h0 h15 hslot => ?_, fun m disp n hslot => ?_,
    fun m o disp n h0 h15 hslot => ?_, fun m disp n hslot => ?_, fun m o n h0 h15 hslot => ?_, fun m disp n hslot => ?_,
    fun m o disp n h0 h15 hslot => ?_, fun m disp n hslot => ?_, fun m o n h0 h15 hslot => ?_, fun m disp n hslot => ?_,
    fun disp hslot => runs_toNat (eaPcDispL_toNat s disp) (notInSlot_next hslot) nofun,
    fun m o disp n ho hslot => ?_, fun m o n ho hslot => ?_, fun m o disp n ho hslot => ?_, fun m o n ho hslot => ?_,
    fun m o disp n ho hslot => ?_, fun m o n ho hslot => ?_, fun m o disp n ho hslot => ?_, fun m o n ho hslot => ?_⟩
  · exact runs_leaIndexDisp .b (disp4 disp) rfl (fun _ => hslot) (index o h0) (index15 o h15)
  · exact runs_leaDisp .b (disp8 disp) rfl fun _ => hslot
  · exact runs_leaIndexOnly .b rfl (fun _ => hslot) (index o h0) (index15 o h15)
  · exact runs_leaDisp .b (disp6 disp) rfl fun _ => hslot
  · exact runs_leaIndexDisp .w (disp4 disp) rfl (fun _ => hslot) (index o h0) (index15 o h15)
  · exact runs_leaDisp .w (disp8 disp) rfl fun _ => hslot
  · exact runs_leaIndexOnly .w rfl (fun _ => hslot) (index o h0) (index15 o h15)
  · exact runs_leaDisp .w (disp6 disp) rfl fun _ => hslot
  · exact runs_leaIndexDisp .l (disp4 disp) rfl (fun _ => hslot) (index o h0) (index15 o h15)
  · exact runs_leaDisp .l (disp8 disp) rfl fun _ => hslot
  · exact runs_leaIndexOnly .l rfl (fun _ => hslot) (index o h0) (index15 o h15)
  · exact runs_leaDisp .l (disp6 disp) rfl fun _ => hslot
  · exact runs_leaIndexDisp .q (disp4 disp) rfl (fun _ => hslot) (index o h0) (index15 o h15)
  · exact runs_leaDisp .q (disp8 disp) rfl fun _ => hslot
  · exact runs_leaIndexOnly .q rfl (fun _ => hslot) (index o h0) (index15 o h15)
  · exact runs_leaDisp .q (disp6 disp) rfl fun _ => hslot
  all_goals exact runs_leaFree rfl (fun _ => hslot) (free o ho)

end Sys2Proof.Machine
end

section
/-!
Loads and stores of general registers (43_int_loadstore.md): each form is one of the shapes of Sys2Proof/Laws/Runs.lean
at its size and its address.
-/
namespace Sys2Proof.Machine

section
variable {l : Len} {i : Instr} {s : State} {ea : QWord} {m d : BitVec 5}

/-- A load that extends the value with its sign. -/
theorem runsLoad_signed (z : Size) (he : exec i s = loadReg l z loadSigned ea d s) (hl : l = .long → s.pending = none) :
    RunsLoad l i s ea z.bytes [.reg d] fun v t => (t.reg d).toInt = (v : Int).bmod (2 ^ (8 * z.bytes)) :=
  runsLoad_loadReg (P := fun v r => r.toInt = (v : Int).bmod (2 ^ (8 * z.bytes))) he hl fun v _ => loadSigned_toInt z v

/-- A load that extends the value with zeroes. -/
theorem runsLoad_unsigned (z : Size) (he : exec i s = loadReg l z loadUnsigned ea d s)
    (hl : l = .long → s.pending = none) : RunsLoad l i s ea z.bytes [.reg d] fun v t => (t.reg d).toNat = v :=
  runsLoad_loadReg (P := fun v r => r.toNat = v) he hl fun v hv => loadUnsigned_toNat z v hv

/-- A load that increases its base by the size. -/
theorem runsLoad_incSigned (z : Size) (he : exec i s = loadRegInc z loadSigned m d s) :
    RunsLoad .short i s (s.reg m) z.bytes [.reg m, .reg d] fun v t =>
      (t.reg d).toInt = (v : Int).bmod (2 ^ (8 * z.bytes)) ∧ (m ≠ d → t.reg m = s.reg m + z.scale) :=
  runsLoad_inc (P := fun v r => r.toInt = (v : Int).bmod (2 ^ (8 * z.bytes))) he fun v _ => loadSigned_toInt z v

/-- A store of a size. -/
theorem runsStore_of (z : Size) (he : exec i s = storeReg l z ea m s) (hl : l = .long → s.pending = none) :
    RunsStore l i s ea z.bytes (s.reg m).toNat [] fun _ => True :=
  runsStore_storeReg he hl
end

/-- Settles O36: each form by its size, its extension and its address. -/
theorem loadsOfBytesAndWordsRun : Obligations.LoadsOfBytesAndWordsRun := fun _ =>
  ⟨fun _ _ => runsLoad_signed .b rfl nofun, fun _ _ => runsLoad_signed .b rfl nofun,
    fun _ hslot => runsLoad_signed .b (notInSlot_next hslot) nofun,
    fun _ _ _ _ hslot => runsLoad_signed .b rfl fun _ => hslot,
    fun _ _ _ hslot => runsLoad_signed .b rfl fun _ => hslot, fun _ _ _ hslot => runsLoad_signed .b rfl fun _ => hslot,
    fun _ _ _ hslot => runsLoad_signed .b rfl fun _ => hslot, fun _ _ => runsLoad_signed .w rfl nofun,
    fun _ hslot => runsLoad_signed .w (notInSlot_next hslot) nofun, fun _ _ => runsLoad_signed .w rfl nofun,
    fun _ _ hslot => runsLoad_signed .w (notInSlot_next hslot) nofun,
    fun _ _ _ _ hslot => runsLoad_signed .w rfl fun _ => hslot,
    fun _ _ _ hslot => runsLoad_signed .w rfl fun _ => hslot, fun _ _ _ hslot => runsLoad_signed .w rfl fun _ => hslot,
    fun _ _ _ hslot => runsLoad_signed .w rfl fun _ => hslot,
    fun _ _ _ hslot => runsLoad_unsigned .b rfl fun _ => hslot,
    fun _ _ _ hslot => runsLoad_unsigned .b rfl fun _ => hslot,
    fun _ _ _ hslot => runsLoad_unsigned .w rfl fun _ => hslot,
    fun _ _ _ hslot => runsLoad_unsigned .w rfl fun _ => hslot⟩

/-- Settles O37: each form by its size, its extension and its address. -/
theorem loadsOfDwordsAndQwordsRun : Obligations.LoadsOfDwordsAndQwordsRun := fun _ =>
  ⟨fun _ _ => runsLoad_signed .l rfl nofun, fun _ _ _ => runsLoad_signed .l rfl nofun,
    fun _ _ => runsLoad_signed .l rfl nofun, fun _ _ hslot => runsLoad_signed .l (notInSlot_next hslot) nofun,
    fun _ hslot => runsLoad_signed .l (notInSlot_next hslot) nofun,
    fun _ _ _ _ hslot => runsLoad_signed .l rfl fun _ => hslot,
    fun _ _ _ _ hslot => runsLoad_signed .l rfl fun _ => hslot,
    fun _ _ _ hslot => runsLoad_signed .l rfl fun _ => hslot, fun _ _ _ hslot => runsLoad_signed .l rfl fun _ => hslot,
    fun _ _ _ hslot => runsLoad_signed .l rfl fun _ => hslot, fun _ _ => runsLoad_signed .q rfl nofun,
    fun _ hslot => runsLoad_signed .q (notInSlot_next hslot) nofun, fun _ _ => runsLoad_signed .q rfl nofun,
    fun _ _ => runsLoad_signed .q rfl nofun, fun _ _ _ _ hslot => runsLoad_signed .q rfl fun _ => hslot,
    fun _ _ _ hslot => runsLoad_signed .q rfl fun _ => hslot, fun _ _ _ hslot => runsLoad_signed .q rfl fun _ => hslot,
    fun _ _ _ hslot => runsLoad_signed .q rfl fun _ => hslot,
    fun _ _ _ hslot => runsLoad_unsigned .l rfl fun _ => hslot,
    fun _ _ _ hslot => runsLoad_unsigned .l rfl fun _ => hslot⟩

/-- Settles O38: the increment first, the loaded value after it. -/
theorem loadsWithIncrementRun : Obligations.LoadsWithIncrementRun := fun _ =>
  ⟨fun _ _ => runsLoad_incSigned .b rfl, fun _ _ => runsLoad_incSigned .w rfl, fun _ _ => runsLoad_incSigned .l rfl,
    fun _ _ => runsLoad_incSigned .q rfl, fun _ => runsLoad_incSigned .q rfl, fun _ => runsLoad_incSigned .q rfl⟩

/-- Settles O39: each form by its size and its address. -/
theorem storesRun : Obligations.StoresRun := fun _ =>
  ⟨fun _ _ => runsStore_of .b rfl nofun, fun _ _ => runsStore_of .b rfl nofun,
    fun _ hslot => runsStore_of .b (notInSlot_next hslot) nofun,
    fun _ _ _ _ hslot => runsStore_of .b rfl fun _ => hslot,
    fun _ _ _ hslot => runsStore_of .b rfl fun _ => hslot, fun _ _ _ hslot => runsStore_of .b rfl fun _ => hslot,
    fun _ _ _ hslot => runsStore_of .b rfl fun _ => hslot, fun _ _ => runsStore_of .w rfl nofun,
    fun _ _ => runsStore_of .w rfl nofun, fun _ hslot => runsStore_of .w (notInSlot_next hslot) nofun,
    fun _ _ _ _ hslot => runsStore_of .w rfl fun _ => hslot, fun _ _ _ hslot => runsStore_of .w rfl fun _ => hslot,
    fun _ _ _ hslot => runsStore_of .w rfl fun _ => hslot, fun _ _ _ hslot => runsStore_of .w rfl fun _ => hslot,
    fun _ _ => runsStore_of .l rfl nofun, fun _ _ _ => runsStore_of .l rfl nofun, fun _ _ => runsStore_of .l rfl nofun,
    fun _ hslot => runsStore_of .l (notInSlot_next hslot) nofun,
    fun _ _ _ _ hslot => runsStore_of .l rfl fun _ => hslot,
    fun _ _ _ _ hslot => runsStore_of .l rfl fun _ => hslot, fun _ _ _ hslot => runsStore_of .l rfl fun _ => hslot,
    fun _ _ _ hslot => runsStore_of .l rfl fun _ => hslot, fun _ _ _ hslot => runsStore_of .l rfl fun _ => hslot,
    fun _ _ => runsStore_of .q rfl nofun, fun _ _ => runsStore_of .q rfl nofun,
    fun _ hslot => runsStore_of .q (notInSlot_next hslot) nofun, fun _ _ => runsStore_of .q rfl nofun,
    fun _ _ _ _ hslot => runsStore_of .q rfl fun _ => hslot, fun _ _ _ hslot => runsStore_of .q rfl fun _ => hslot,
    fun _ _ _ hslot => runsStore_of .q rfl fun _ => hslot, fun _ _ _ hslot => runsStore_of .q rfl fun _ => hslot,
    fun _ => runsStore_of .l rfl nofun⟩

/-- Settles O40: each stores the value it read before the decrement. -/
theorem storesWithDecrementRun : Obligations.StoresWithDecrementRun := fun _ =>
  ⟨fun _ _ => runsStore_dec rfl, fun _ _ => runsStore_dec rfl, fun _ _ => runsStore_dec rfl,
    fun _ _ => runsStore_dec rfl, fun _ => runsStore_dec rfl, fun _ => runsStore_dec rfl⟩

end Sys2Proof.Machine
end

section
/-!
Branches, calls and returns (44_int_branch.md), the return from an exception (45_int_system.md R340), and what an
instruction in a delay slot sees (70_reset_and_hazards.md).
-/
namespace Sys2Proof.Machine

/-! ## Labels and conditions -/

theorem wraps_labelTarget {w : Nat} (s : State) (l : Len) (label : BitVec w) (h : w ≤ 64) :
    Wraps 64 (s.pc.toInt + (l.bytes + 2 : Nat) + 2 * label.toInt) (s.labelTarget l label) :=
  labelTarget_toInt s l label h

section
variable {l : Len} {i : Instr} {s : State} {w : Nat} {label : BitVec w} {cond : Bool} {c : Prop}

/-- A conditional branch with no delay slot, taken when `c` holds. -/
theorem jumps_branchIf (hw : w ≤ 64) (hc : c ↔ cond = true) (he : exec i s = branchIf l cond label s) :
    Jumps i s [] (fun _ => True) fun a =>
      (c → Wraps 64 (s.pc.toInt + (l.bytes + 2 : Nat) + 2 * label.toInt) a) ∧
        (¬c → a = s.pc + BitVec.ofNat 64 l.bytes) := by
  intro hslot
  have hx := he.trans (notInSlot_next hslot)
  cases cond with
  | true =>
    exact ⟨_, hx, ⟨fun _ => wraps_labelTarget s l label hw, fun h => absurd (hc.2 rfl) h⟩, hslot, trivial,
      keeps_jumpTo s _⟩
  | false =>
    obtain ⟨hpc, hpending⟩ := goesOn_retire (s := s) l rfl rfl
    rw [State.following, hslot] at hpc
    exact ⟨_, hx, ⟨fun h => absurd (hc.1 h) nofun, fun _ => hpc⟩, hpending, trivial, keeps_retire s l⟩

/-- A conditional branch with a delay slot, taken when `c` holds; else it goes on after the slot. -/
theorem delays_branchIf (hw : w ≤ 64) (hc : c ↔ cond = true) (he : exec i s = branchIfDelayed l cond label s) :
    Delays l i s [] (fun _ => True) fun a =>
      (c → Wraps 64 (s.pc.toInt + (l.bytes + 2 : Nat) + 2 * label.toInt) a) ∧ (¬c → a = s.pcOperand l) := by
  refine delays_of (u := s) (fun hslot => he.trans (notInSlot_next hslot)) ?_ rfl trivial (State.KeepsBut.refl s [])
  cases cond with
  | true => exact ⟨fun _ => wraps_labelTarget s l label hw, fun h => absurd (hc.2 rfl) h⟩
  | false => exact ⟨fun h => absurd (hc.1 h) nofun, fun _ => rfl⟩
end

section
variable {i : Instr} {s : State} {T : QWord → Prop} {a v : QWord}

/-- A branch that jumps at once. -/
theorem jumps_jumpTo (he : exec i s = notInSlot s (.next (s.jumpTo a))) (ht : T a) :
    Jumps i s [] (fun _ => True) T :=
  jumps_of (fun hslot => he.trans (notInSlot_next hslot)) ht (fun h => h) trivial (keeps_jumpTo s a)

/-- A call that jumps at once. -/
theorem jumps_call (he : exec i s = notInSlot s (.next ({ s with pr := v }.jumpTo a))) (ht : T a) :
    Jumps i s [.pr] (fun t => t.pr = v) T :=
  jumps_of (fun hslot => he.trans (notInSlot_next hslot)) ht (fun h => h) rfl
    ((keeps_pr s v).trans (keeps_jumpTo _ a))

/-- A branch with a delay slot. -/
theorem delays_to (he : exec i s = notInSlot s (.next (s.delayed .short a))) (ht : T a) :
    Delays .short i s [] (fun _ => True) T :=
  delays_of (u := s) (fun hslot => he.trans (notInSlot_next hslot)) ht rfl trivial (State.KeepsBut.refl s [])

/-- A call with a delay slot. -/
theorem delays_call (he : exec i s = notInSlot s (.next ({ s with pr := v }.delayed .short a))) (ht : T a) :
    Delays .short i s [.pr] (fun t => t.pr = v) T :=
  delays_of (u := { s with pr := v }) (fun hslot => he.trans (notInSlot_next hslot)) ht rfl rfl (keeps_pr s v)
end

/-- Settles O42: each by its condition, its label and its link. -/
theorem branchesWithoutSlotRun : Obligations.BranchesWithoutSlotRun := by
  intro s
  have hclear : s.flagT = false ↔ (!s.flagT) = true := by simp
  exact ⟨fun _ => jumps_branchIf (l := .short) (by decide) hclear rfl,
    fun _ => jumps_branchIf (l := .long) (by decide) hclear rfl,
    fun _ => jumps_branchIf (l := .short) (by decide) Iff.rfl rfl,
    fun _ => jumps_branchIf (l := .long) (by decide) Iff.rfl rfl,
    fun label => jumps_jumpTo rfl (wraps_labelTarget s .short label (by decide)),
    fun label => jumps_jumpTo rfl (wraps_labelTarget s .long label (by decide)),
    fun label => jumps_call rfl (wraps_labelTarget s .long label (by decide))⟩

/-! ## JMP and JSR -/

/-- JMP by the launch's choice of a delay slot (D13). -/
theorem exec_jmp (n : BitVec 4) (s : State) : exec (.jmp n) s = notInSlot s (.next
    (if s.launch.jmpJsrDelayed then s.delayed .short (s.reg (lo n)) else s.jumpTo (s.reg (lo n)))) := rfl

theorem exec_jsr (n : BitVec 4) (s : State) : exec (.jsr n) s = notInSlot s (.next
    (if s.launch.jmpJsrDelayed then { s with pr := s.pc + 4#64 }.delayed .short (s.reg (lo n))
     else { s with pr := s.pc + 2#64 }.jumpTo (s.reg (lo n)))) := rfl

theorem exec_jsr_delayed {n : BitVec 4} {s : State} (h : s.launch.jmpJsrDelayed = true) :
    exec (.jsr n) s = notInSlot s (.next ({ s with pr := s.pc + 4#64 }.delayed .short (s.reg (lo n)))) := by
  rw [exec_jsr, if_pos h]

/-- JMP and JSR in either launch. -/
theorem jmpJsr_run (s : State) (n : BitVec 4) :
    (s.launch.jmpJsrDelayed = true →
      Delays .short (.jmp n) s [] (fun _ => True) (fun a => a = s.reg (lo n)) ∧
      Delays .short (.jsr n) s [.pr] (fun t => t.pr = s.pc + 4#64) (fun a => a = s.reg (lo n))) ∧
    (s.launch.jmpJsrDelayed = false →
      Jumps (.jmp n) s [] (fun _ => True) (fun a => a = s.reg (lo n)) ∧
      Jumps (.jsr n) s [.pr] (fun t => t.pr = s.pc + 2#64) (fun a => a = s.reg (lo n))) := by
  refine ⟨fun h => ⟨delays_to ?_ rfl, delays_call (exec_jsr_delayed h) rfl⟩,
    fun h => ⟨jumps_jumpTo ?_ rfl, jumps_call ?_ rfl⟩⟩
  · rw [exec_jmp, if_pos h]
  · rw [exec_jmp, if_neg (by simp [h])]
  · rw [exec_jsr, if_neg (by simp [h])]

/-- Settles O43: each by its target and its link, the slot next. -/
theorem delayedBranchesRun : Obligations.DelayedBranchesRun := by
  intro s
  have hclear : s.flagT = false ↔ (!s.flagT) = true := by simp
  exact ⟨fun _ => delays_branchIf (l := .short) (by decide) hclear rfl,
    fun _ => delays_branchIf (l := .long) (by decide) hclear rfl,
    fun _ => delays_branchIf (l := .short) (by decide) Iff.rfl rfl,
    fun _ => delays_branchIf (l := .long) (by decide) Iff.rfl rfl,
    fun label => delays_to rfl (wraps_labelTarget s .short label (by decide)),
    fun label => delays_call rfl (wraps_labelTarget s .short label (by decide)),
    fun _ => delays_to rfl ((wraps_pcOperand_short s).add (wraps_toInt _)),
    fun _ => delays_call rfl ((wraps_pcOperand_short s).add (wraps_toInt _)),
    delays_to rfl rfl, jmpJsr_run s⟩

/-! ## The return from an exception -/

theorem exec_rte (s : State) : exec .rte s = notInSlot s (returnFromException s) := rfl

theorem exec_rte_next {s : State} (hslot : s.pending = none) (hjq : jqOf s.ssr = true) :
    exec .rte s = .next (({ s with sr := s.ssr }.setReg regSp s.sgr).delayed .short s.spc) := by
  rw [exec_rte, notInSlot_next hslot, returnFromException, if_pos hjq]

/-- Settles O44: SR and R15 are restored before the slot, or the return is refused. -/
theorem returnFromExceptionRuns : Obligations.ReturnFromExceptionRuns := by
  refine fun s => ⟨fun hjq => ?_, fun hjq hslot => ?_⟩
  · refine delays_of (fun hslot => exec_rte_next hslot hjq) rfl rfl ⟨rfl, State.reg_setReg_self _ regSp s.sgr⟩ ?_
    exact ((keeps_setSr s s.ssr).trans (keeps_setReg _ regSp s.sgr)).mono (by simp [regSp])
  · rw [exec_rte, notInSlot_next hslot, returnFromException, if_neg (by simp [hjq])]

/-- What the entry into a handler saves, RTE restores; the rest neither changes. -/
theorem keeps_enterTrap_return (s : State) (c : Cause) (inst : Option DWord) (a : QWord) :
    s.KeepsBut ((({ s.enterTrap c inst with sr := s.sr }).setReg regSp (s.reg regSp)).delayed .short a)
      [.spc, .ssr, .sgr, .records] := by
  intro p hp
  cases p with
  | reg r =>
    by_cases h : r = regSp
    · exact h ▸ State.reg_setReg_self _ regSp _
    · exact State.reg_setReg_ne _ h _
  | spc | ssr | sgr | records => simp at hp
  | _ => rfl

/-- Settles O45: RTE in the handler undoes the entry but for SPC, SSR, SGR and the record. -/
theorem trapThenReturnRestores : Obligations.TrapThenReturnRestores := by
  intro s k hslot hjq hvector
  refine ⟨_, _, (exec_trapa_next hslot).trans (raiseWith_vector nofun hvector), exec_rte_next rfl hjq, rfl, rfl, rfl,
    ?_, keeps_enterTrap_return s _ _ _⟩
  exact List.length_append

/-! ## In the slot -/

/-- A register loaded through itself holds the loaded value. -/
theorem loadInc_self {i : Instr} {s : State} {r : BitVec 5} (z : Size) {P : Nat → QWord → Prop}
    (he : exec i s = loadRegInc z loadSigned r r s) (hp : ∀ v, v < 256 ^ z.bytes → P v (loadSigned z v)) :
    ∀ v, s.Loads (s.reg r) z.bytes v → ∃ t, exec i s = .next t ∧ P v (t.reg r) := by
  intro v hv
  obtain ⟨t, ht, ⟨hval, -⟩, -⟩ := (runsLoad_inc he hp).1 v hv
  exact ⟨t, ht, hval⟩

/-- A register stored through itself leaves its value before the decrement. -/
theorem storeDec_self {i : Instr} {s : State} {r : BitVec 5} {n : Nat}
    (he : exec i s = storeDec r n (s.reg r) s) :
    s.Stores (s.reg r - BitVec.ofNat 64 n) n → ∃ t, exec i s = .next t ∧
      t.Holds (s.reg r - BitVec.ofNat 64 n) n (s.reg r).toNat := by
  intro hs
  obtain ⟨t, ht, ⟨hholds, -⟩, -⟩ := (runsStore_dec he).1 hs
  exact ⟨t, ht, hholds⟩

/-- Settles O46: the order of the increment and the load, of the store and the decrement, and the target read by the
branch. -/
theorem slotSeesTheBranch : Obligations.SlotSeesTheBranch := by
  intro s n m
  refine ⟨?_, ?_, ?_, ?_, storeDec_self rfl, storeDec_self rfl, storeDec_self rfl, storeDec_self rfl,
    fun hslot hdelayed k => ?_, fun hslot => ?_, fun hslot label => ?_⟩
  · exact loadInc_self .q (P := fun v r => r.toNat = v) rfl (loadUnsigned_toNat .q)
  · exact loadInc_self .l (P := fun v r => r.toInt = (v : Int).bmod (2 ^ 32)) rfl fun v _ => loadSigned_toInt .l v
  · exact loadInc_self .w (P := fun v r => r.toInt = (v : Int).bmod (2 ^ 16)) rfl fun v _ => loadSigned_toInt .w v
  · exact loadInc_self .b (P := fun v r => r.toInt = (v : Int).bmod (2 ^ 8)) rfl fun v _ => loadSigned_toInt .b v
  · exact ⟨_, _, (exec_jsr_delayed hdelayed).trans (notInSlot_next hslot), rfl, rfl⟩
  · exact ⟨_, _, notInSlot_next hslot, rfl, rfl, rfl⟩
  · exact ⟨_, _, notInSlot_next hslot, rfl, rfl, rfl⟩

end Sys2Proof.Machine
end

section
/-!
The transfers of control and system registers (45_int_system.md R335 to R347): each register once, as a place that is
written and read, and each form by the width it transfers.
-/
namespace Sys2Proof.Machine

/-! ## A control register as a place -/

/-- `set` writes a register that `get` reads, which is what `p` names, and no general register. -/
structure WritesControl {α : Type} (set : α → State → State) (get : State → α) (p : List Part) : Prop where
  keeps : ∀ (v : α) (t : State), t.KeepsBut (set v t) p
  pc : ∀ (v : α) (t : State), (set v t).pc = t.pc
  pending : ∀ (v : α) (t : State), (set v t).pending = t.pending
  reads : ∀ (v : α) (t : State), get (set v t) = v
  gpr : ∀ (v : α) (t : State), (set v t).gpr = t.gpr
  advance : ∀ t : State, get (t.retire .short) = get t

theorem writesControl_gbr : WritesControl (fun v s => { s with gbr := v }) State.gbr [.gbr] :=
  ⟨fun v t => keeps_gbr t v, fun _ _ => rfl, fun _ _ => rfl, fun _ _ => rfl, fun _ _ => rfl,
    fun t => State.retire_gbr t .short⟩

theorem writesControl_vbr : WritesControl (fun v s => { s with vbr := v }) State.vbr [.vbr] :=
  ⟨fun v t => keeps_vbr t v, fun _ _ => rfl, fun _ _ => rfl, fun _ _ => rfl, fun _ _ => rfl,
    fun t => State.retire_vbr t .short⟩

theorem writesControl_spc : WritesControl (fun v s => { s with spc := v }) State.spc [.spc] :=
  ⟨fun v t => keeps_spc t v, fun _ _ => rfl, fun _ _ => rfl, fun _ _ => rfl, fun _ _ => rfl,
    fun t => State.retire_spc t .short⟩

theorem writesControl_dbr : WritesControl (fun v s => { s with dbr := v }) State.dbr [.dbr] :=
  ⟨fun v t => keeps_dbr t v, fun _ _ => rfl, fun _ _ => rfl, fun _ _ => rfl, fun _ _ => rfl,
    fun t => State.retire_dbr t .short⟩

theorem writesControl_pr : WritesControl (fun v s => { s with pr := v }) State.pr [.pr] :=
  ⟨fun v t => keeps_pr t v, fun _ _ => rfl, fun _ _ => rfl, fun _ _ => rfl, fun _ _ => rfl,
    fun t => State.retire_pr t .short⟩

theorem State.bankReg_setBankReg_self (s : State) (b : BitVec 3) (v : QWord) : (s.setBankReg b v).bankReg b = v := by
  rw [State.bankReg_setBankReg, if_pos rfl]

theorem writesControl_bank (b : BitVec 3) :
    WritesControl (fun v s => s.setBankReg b v) (fun s => s.bankReg b) [.bank b] :=
  ⟨fun v t => keeps_setBankReg t b v, fun _ _ => rfl, fun _ _ => rfl, fun v t => State.bankReg_setBankReg_self t b v,
    fun _ _ => rfl, fun t => State.bankReg_retire t .short b⟩

theorem writesControl_ssr : WritesControl (fun v s => { s with ssr := v }) State.ssr [.ssr] :=
  ⟨fun v t => keeps_ssr t v, fun _ _ => rfl, fun _ _ => rfl, fun _ _ => rfl, fun _ _ => rfl,
    fun t => State.retire_ssr t .short⟩

theorem writesControl_mach : WritesControl (fun v s => { s with mach := v }) State.mach [.mach] :=
  ⟨fun v t => keeps_mach t v, fun _ _ => rfl, fun _ _ => rfl, fun _ _ => rfl, fun _ _ => rfl,
    fun t => State.retire_mach t .short⟩

theorem writesControl_macl : WritesControl (fun v s => { s with macl := v }) State.macl [.macl] :=
  ⟨fun v t => keeps_macl t v, fun _ _ => rfl, fun _ _ => rfl, fun _ _ => rfl, fun _ _ => rfl,
    fun t => State.retire_macl t .short⟩

theorem writesControl_fpul : WritesControl (fun v s => { s with fpul := v }) State.fpul [.fpul] :=
  ⟨fun v t => keeps_fpul t v, fun _ _ => rfl, fun _ _ => rfl, fun _ _ => rfl, fun _ _ => rfl,
    fun t => State.retire_fpul t .short⟩

theorem writesControl_fpscr : WritesControl (fun v s => { s with fpscr := v }) State.fpscr [.fpscr] :=
  ⟨fun v t => keeps_fpscr t v, fun _ _ => rfl, fun _ _ => rfl, fun _ _ => rfl, fun _ _ => rfl,
    fun t => State.retire_fpscr t .short⟩

theorem writesControl_sr : WritesControl (fun v s => { s with sr := v }) State.sr Part.allSr :=
  ⟨fun v t => keeps_setSr t v, fun _ _ => rfl, fun _ _ => rfl, fun _ _ => rfl, fun _ _ => rfl,
    fun t => State.retire_sr t .short⟩

section
variable {i : Instr} {s : State} {m n d : BitVec 5} {p : List Part}

/-- A transfer from a general register. -/
theorem runs_writesControl {α : Type} {set : α → State → State} {get : State → α} {v : α} {P : α → Prop}
    (h : WritesControl set get p) (he : exec i s = .next ((set v s).retire .short)) (hv : P v) :
    Runs .short i s p fun t => P (get t) :=
  runs_next he (((h.advance _).trans (h.reads v s)).symm ▸ hv) (h.keeps v s) (h.pc v s) (h.pending v s)

/-- A transfer of a whole general register. -/
theorem runs_writesControl_whole {set : QWord → State → State} {get : State → QWord} {a : QWord}
    (h : WritesControl set get p) (he : exec i s = .next ((set a s).retire .short)) :
    Runs .short i s p fun t => get t = a :=
  runs_writesControl (P := fun v => v = a) h he rfl

/-- A transfer of the low half of a general register. -/
theorem runs_writesControl_low {set : DWord → State → State} {get : State → DWord} {a : QWord}
    (h : WritesControl set get p) (he : exec i s = .next ((set (lowDword a) s).retire .short)) :
    Runs .short i s p fun t => (get t).toNat = unsignedLow 32 a :=
  runs_writesControl (P := fun v => v.toNat = unsignedLow 32 a) h he (lowDword_toNat a)

/-- What a load from `@Rm+` leaves: the value as `conv` makes it, and the base increased. -/
theorem runsLoad_writesControl {α : Type} {set : α → State → State} {get : State → α} {conv : DWord → α}
    {P : Nat → α → Prop} (h : WritesControl set get p) (he : exec i s = loadSys m (fun v t => set (conv v) t) s)
    (hp : ∀ v, v < 2 ^ 32 → P v (conv (BitVec.ofNat 32 v))) :
    RunsLoad .short i s (s.reg m) 4 (.reg m :: p) fun v t => P v (get t) ∧ t.reg m = s.reg m + 4#64 := by
  refine runsLoad_sys he (fun v t => h.keeps _ t) (fun v t => h.pc _ t) (fun v t => h.pending _ t) fun v hv => ⟨?_, ?_⟩
  · exact ((h.advance _).trans (h.reads _ _)).symm ▸ hp v hv
  · exact ((State.reg_retire _ .short m).trans (State.reg_of_gpr (h.gpr _ _) m)).trans (State.reg_setReg_self s m _)

/-- A 64-bit register takes the four bytes sign-extended. -/
theorem runsLoad_signedControl {set : QWord → State → State} {get : State → QWord} (h : WritesControl set get p)
    (he : exec i s = loadSys m (fun v t => set (v.signExtend 64) t) s) :
    RunsLoad .short i s (s.reg m) 4 (.reg m :: p) fun v t =>
      (get t).toInt = (v : Int).bmod (2 ^ 32) ∧ t.reg m = s.reg m + 4#64 :=
  runsLoad_writesControl (P := fun v r => r.toInt = (v : Int).bmod (2 ^ (8 * Size.l.bytes))) h he fun v _ =>
    loadSigned_toInt .l v

/-- A 32-bit register takes the four bytes whole. -/
theorem runsLoad_wholeControl {set : DWord → State → State} {get : State → DWord} (h : WritesControl set get p)
    (he : exec i s = loadSys m (fun v t => set v t) s) :
    RunsLoad .short i s (s.reg m) 4 (.reg m :: p) fun v t =>
      (get t).toNat = v ∧ t.reg m = s.reg m + 4#64 :=
  runsLoad_writesControl (P := fun v r => r.toNat = v) h he fun v hv =>
    (BitVec.toNat_ofNat v 32).trans (Nat.mod_eq_of_lt hv)

/-- A checked load: what is loaded is written when it is admitted and refused when it is not. -/
theorem runs_checkedControl {bad : DWord → Bool} {why : Refusal} {set : DWord → State → State} {get : State → DWord}
    {conv : DWord → DWord} (h : WritesControl set get p)
    (he : exec i s = loadSysChecked m bad why (fun v t => set (conv v) t) s) :
    (s.accessOk .read (s.reg m) 4 = false → exec i s = raise (.addressError (s.reg m) .read) s) ∧
    ∀ v, s.Loads (s.reg m) 4 v →
      (bad (BitVec.ofNat 32 v) = false → Runs .short i s (.reg m :: p) fun t =>
        get t = conv (BitVec.ofNat 32 v) ∧ t.reg m = s.reg m + 4#64) ∧
      (bad (BitVec.ofNat 32 v) = true → exec i s = .refused why) := by
  refine ⟨fun h => he.trans (load_raises h), fun v hv => ⟨fun hb => ?_, fun hb => he.trans (sysChecked_refused hv hb)⟩⟩
  refine runs_sysChecked he hv hb (fun v t => h.keeps _ t) (fun v t => h.pc _ t) (fun v t => h.pending _ t) ⟨?_, ?_⟩
  · exact (h.advance _).trans (h.reads _ _)
  · exact ((State.reg_retire _ .short m).trans (State.reg_of_gpr (h.gpr _ _) m)).trans (State.reg_setReg_self s m _)

/-- A transfer of a whole 64-bit register to a general register. -/
theorem runs_whole {v : QWord} (he : exec i s = writeReg .short d v s) :
    Runs .short i s [.reg d] fun t => t.reg d = v :=
  runs_writeReg (P := fun r => r = v) he nofun rfl

/-- A transfer of a 32-bit register to a general register, zero-extended. -/
theorem runs_zeroExtended {v : DWord} (he : exec i s = writeReg .short d (v.setWidth 64) s) :
    Runs .short i s [.reg d] fun t => (t.reg d).toNat = v.toNat :=
  runs_toNat (BitVec.toNat_setWidth_of_le (by decide)) he nofun

/-- A transfer of a 32-bit register to a general register, sign-extended. -/
theorem runs_signExtended {v : DWord} (he : exec i s = writeReg .short d (v.signExtend 64) s) :
    Runs .short i s [.reg d] fun t => (t.reg d).toInt = v.toInt :=
  runs_toInt (BitVec.toInt_signExtend_of_le (by decide)) he nofun

/-- A store of a 32-bit register to `@-Rn`. -/
theorem runsStore_zeroExtended {v : DWord} (he : exec i s = storeSys n (v.setWidth 64) s) :
    RunsStore .short i s (s.reg n - 4#64) 4 v.toNat [.reg n] fun t => t.reg n = s.reg n - 4#64 := by
  have h := runsStore_dec (i := i) (bytes := 4) (v := v.setWidth 64) he
  rwa [BitVec.toNat_setWidth_of_le (by decide)] at h
end

/-! ## SR and FPSCR, which are checked -/

theorem exec_ldcRmSr (m : BitVec 4) (s : State) : exec (.ldcRmSr m) s =
    if jqOf (lowDword (s.reg (lo m)) &&& s.launch.srWriteMask) then
      .next ({ s with sr := lowDword (s.reg (lo m)) &&& s.launch.srWriteMask }.retire .short)
    else .refused (.srJqClear s.pc) := rfl

theorem exec_ldsRmFpscr (m : BitVec 4) (s : State) : exec (.ldsRmFpscr m) s = fpuGuard s
    (if fpscrBad s.launch (lowDword (s.reg (lo m))) then .refused (.fpscrUnsupported s.pc)
     else .next ({ s with fpscr := lowDword (s.reg (lo m)) }.retire .short)) := rfl

theorem exec_ldcLIncRmSr (m : BitVec 4) (s : State) : exec (.ldcLIncRmSr m) s =
    loadSysChecked (lo m) (fun v => !jqOf (v &&& s.launch.srWriteMask)) (.srJqClear s.pc)
      (fun v t => { t with sr := v &&& s.launch.srWriteMask }) s := rfl

theorem exec_ldsLIncRmFpscr (m : BitVec 4) (s : State) : exec (.ldsLIncRmFpscr m) s =
    fpuGuard s (loadSysChecked (lo m) (fpscrBad s.launch) (.fpscrUnsupported s.pc)
      (fun v t => { t with fpscr := v }) s) := rfl

theorem lowDword_and_bit (a : QWord) (mask : DWord) :
    ∀ i < 32, (lowDword a &&& mask).getLsbD i = (a.getLsbD i && mask.getLsbD i) := by
  intro i hi
  simp [lowDword, hi]

/-- LDC to SR, masked, or refused where the masked value has JQ = 0. -/
theorem ldcRmSr_run (s : State) (m : BitVec 4) :
    (jqOf (lowDword (s.reg (lo m)) &&& s.launch.srWriteMask) = true →
      Runs .short (.ldcRmSr m) s Part.allSr fun t =>
        ∀ i < 32, t.sr.getLsbD i = ((s.reg (lo m)).getLsbD i && s.launch.srWriteMask.getLsbD i)) ∧
    (jqOf (lowDword (s.reg (lo m)) &&& s.launch.srWriteMask) = false →
      exec (.ldcRmSr m) s = .refused (.srJqClear s.pc)) := by
  refine ⟨fun h => ?_, fun h => ?_⟩
  · exact runs_writesControl (P := fun v : DWord =>
        ∀ i < 32, v.getLsbD i = ((s.reg (lo m)).getLsbD i && s.launch.srWriteMask.getLsbD i))
      writesControl_sr ((exec_ldcRmSr m s).trans (if_pos h)) (lowDword_and_bit _ _)
  · rw [exec_ldcRmSr, if_neg (by simp [h])]

/-- LDS to FPSCR, or refused where the value sets FR or a declared VE bit. -/
theorem ldsRmFpscr_run (s : State) (m : BitVec 4) (hfpu : s.FpuPresent) :
    (fpscrBad s.launch (lowDword (s.reg (lo m))) = false →
      Runs .short (.ldsRmFpscr m) s [.fpscr] fun t => t.fpscr.toNat = unsignedLow 32 (s.reg (lo m))) ∧
    (fpscrBad s.launch (lowDword (s.reg (lo m))) = true →
      exec (.ldsRmFpscr m) s = .refused (.fpscrUnsupported s.pc)) := by
  have he := (exec_ldsRmFpscr m s).trans (fpuGuard_next hfpu)
  exact ⟨fun h => runs_writesControl_low writesControl_fpscr (he.trans (if_neg (by simp [h]))),
    fun h => he.trans (if_pos h)⟩

/-- LDC.L to SR. -/
theorem ldcLIncRmSr_run (s : State) (m : BitVec 4) :
    (s.accessOk .read (s.reg (lo m)) 4 = false →
        exec (.ldcLIncRmSr m) s = raise (.addressError (s.reg (lo m)) .read) s) ∧
      ∀ v : Nat, s.Loads (s.reg (lo m)) 4 v →
      (jqOf (BitVec.ofNat 32 v &&& s.launch.srWriteMask) = true →
        Runs .short (.ldcLIncRmSr m) s (.reg (lo m) :: Part.allSr) fun t =>
          t.sr = BitVec.ofNat 32 v &&& s.launch.srWriteMask ∧ t.reg (lo m) = s.reg (lo m) + 4#64) ∧
      (jqOf (BitVec.ofNat 32 v &&& s.launch.srWriteMask) = false →
        exec (.ldcLIncRmSr m) s = .refused (.srJqClear s.pc)) := by
  obtain ⟨hraise, hrun⟩ := runs_checkedControl (conv := fun v => v &&& s.launch.srWriteMask) writesControl_sr
    (exec_ldcLIncRmSr m s)
  refine ⟨hraise, fun v hv => ?_⟩
  obtain ⟨hnext, hrefused⟩ := hrun v hv
  exact ⟨fun h => hnext (by simp [h]), fun h => hrefused (by simp [h])⟩

/-- LDS.L to FPSCR. -/
theorem ldsLIncRmFpscr_run (s : State) (m : BitVec 4) (hfpu : s.FpuPresent) :
    (s.accessOk .read (s.reg (lo m)) 4 = false →
        exec (.ldsLIncRmFpscr m) s = raise (.addressError (s.reg (lo m)) .read) s) ∧
      ∀ v : Nat, s.Loads (s.reg (lo m)) 4 v →
      (fpscrBad s.launch (BitVec.ofNat 32 v) = false →
        Runs .short (.ldsLIncRmFpscr m) s [.reg (lo m), .fpscr] fun t =>
          t.fpscr.toNat = v ∧ t.reg (lo m) = s.reg (lo m) + 4#64) ∧
      (fpscrBad s.launch (BitVec.ofNat 32 v) = true →
        exec (.ldsLIncRmFpscr m) s = .refused (.fpscrUnsupported s.pc)) := by
  obtain ⟨hraise, hrun⟩ := runs_checkedControl (conv := fun v => v) writesControl_fpscr
    ((exec_ldsLIncRmFpscr m s).trans (fpuGuard_next hfpu))
  refine ⟨hraise, fun v hv => ?_⟩
  obtain ⟨hnext, hrefused⟩ := hrun v hv
  have hlt : v < 2 ^ 32 := by simpa using memRead_lt hv.2
  exact ⟨fun h => (hnext h).mono (List.Subset.refl _) fun t ⟨ht, hreg⟩ =>
    ⟨by rw [ht, BitVec.toNat_ofNat, Nat.mod_eq_of_lt hlt], hreg⟩, hrefused⟩

/-! ## The statements -/

/-- Settles O49: each by the register it names and the width it copies. -/
theorem controlRegisterMovesRun : Obligations.ControlRegisterMovesRun := fun s =>
  ⟨fun _ => runs_writesControl_whole writesControl_gbr rfl, fun _ => runs_writesControl_whole writesControl_vbr rfl,
    fun _ => runs_writesControl_whole writesControl_spc rfl, fun _ => runs_writesControl_whole writesControl_dbr rfl,
    fun _ => runs_writesControl_whole writesControl_pr rfl,
    fun _ b => runs_writesControl_whole (writesControl_bank b) rfl,
    fun _ => runs_writesControl_low writesControl_ssr rfl, fun _ => runs_writesControl_low writesControl_mach rfl,
    fun _ => runs_writesControl_low writesControl_macl rfl,
    fun _ hfpu => runs_writesControl_low writesControl_fpul (fpuGuard_next hfpu),
    ldcRmSr_run s, ldsRmFpscr_run s, fun _ => runs_whole rfl, fun _ => runs_whole rfl, fun _ => runs_whole rfl,
    fun _ => runs_whole rfl, fun _ _ => runs_whole rfl, fun _ => runs_whole rfl, fun _ => runs_zeroExtended rfl,
    fun _ => runs_zeroExtended rfl, fun _ => runs_signExtended rfl, fun _ => runs_signExtended rfl,
    fun _ hfpu => runs_signExtended (fpuGuard_next hfpu), fun _ hfpu => runs_signExtended (fpuGuard_next hfpu)⟩

/-- Settles O50: each by the register it names, sign-extended to 64 bits or whole. -/
theorem loadsOfControlRegistersFromMemoryRun : Obligations.LoadsOfControlRegistersFromMemoryRun := fun s =>
  ⟨fun _ => runsLoad_signedControl writesControl_gbr rfl, fun _ => runsLoad_signedControl writesControl_vbr rfl,
    fun _ => runsLoad_signedControl writesControl_spc rfl, fun _ => runsLoad_signedControl writesControl_dbr rfl,
    fun _ => runsLoad_signedControl writesControl_pr rfl,
    fun _ b => runsLoad_signedControl (writesControl_bank b) rfl,
    fun _ => runsLoad_wholeControl writesControl_ssr rfl, fun _ => runsLoad_wholeControl writesControl_mach rfl,
    fun _ => runsLoad_wholeControl writesControl_macl rfl,
    fun _ hfpu => runsLoad_wholeControl writesControl_fpul (fpuGuard_next hfpu),
    ldcLIncRmSr_run s, ldsLIncRmFpscr_run s⟩

/-- Settles O51: each by the low half of the register it names. -/
theorem storesOfControlRegistersRun : Obligations.StoresOfControlRegistersRun := fun _ =>
  ⟨fun _ => runsStore_zeroExtended rfl, fun _ => runsStore_dec rfl, fun _ => runsStore_dec rfl,
    fun _ => runsStore_zeroExtended rfl, fun _ => runsStore_dec rfl, fun _ => runsStore_dec rfl,
    fun _ _ => runsStore_dec rfl, fun _ => runsStore_zeroExtended rfl, fun _ => runsStore_zeroExtended rfl,
    fun _ => runsStore_dec rfl, fun _ hfpu => runsStore_zeroExtended (fpuGuard_next hfpu),
    fun _ hfpu => runsStore_zeroExtended (fpuGuard_next hfpu)⟩

end Sys2Proof.Machine
end

section
/-!
Floating-point arithmetic, compares, conversions, moves between registers and the modes (46_fpu.md): each is a Single or
a Double operation by FPSCR.PR, or a pair move by FPSCR.SZ, stated once for each shape.
-/
namespace Sys2Proof.Machine

section
variable {l : Len} {i : Instr} {s : State} {m n : Nibble}

/-! ## What is written -/

/-- An instruction that writes a Single register. -/
theorem runs_setFrReg {v : DWord} {P : DWord → Prop} (hv : P v) (he : exec i s = .next ((s.setFrReg n v).retire l)) :
    Runs l i s [.fr n] fun t => P (t.frReg n) := by
  refine runs_next he ?_ (keeps_setFrReg s n v) rfl rfl
  rw [State.frReg_retire, State.frReg_setFrReg, if_pos rfl]
  exact hv

theorem setPair_pc (s : State) (n : Nibble) (v : QWord) : (s.setPair n v).pc = s.pc := by
  unfold State.setPair
  split <;> rfl

theorem setPair_pending (s : State) (n : Nibble) (v : QWord) : (s.setPair n v).pending = s.pending := by
  unfold State.setPair
  split <;> rfl

/-- An instruction that writes a pair. -/
theorem runs_setPair {v : QWord} {P : QWord → Prop} (hv : P v) (he : exec i s = .next ((s.setPair n v).retire l)) :
    Runs l i s (Part.pair n) fun t => P (t.pair n) := by
  refine runs_next he ?_ (keeps_setPair s n v) (setPair_pc s n v) (setPair_pending s n v)
  rw [State.pair_retire, State.pair_setPair]
  exact hv

/-- A result written by FPSCR.PR, to a Single register or to a pair. -/
theorem runs_fpWrite {f : Bool → QWord} {P : DWord → Prop} {Q : QWord → Prop} (he : exec i s = fpWrite n f s)
    (hP : s.fpPr = false → P (lowDword (f false))) (hQ : s.fpPr = true → Q (f true)) :
    (s.fpPr = false → Runs .short i s [.fr n] fun t => P (t.frReg n)) ∧
    (s.fpPr = true → s.pairOk n = true → Runs .short i s (Part.pair n) fun t => Q (t.pair n)) :=
  ⟨fun h => runs_setFrReg (hP h) (he.trans (fpWrite_single h)),
    fun h hn => runs_setPair (hQ h) (he.trans (fpWrite_double h hn))⟩

/-- A result that is not computed from the registers. -/
theorem runs_fpConst {f : Bool → QWord} (he : exec i s = fpWrite n f s) :
    (s.fpPr = false → Runs .short i s [.fr n] fun t => t.frReg n = lowDword (f false)) ∧
    (s.fpPr = true → s.pairOk n = true → Runs .short i s (Part.pair n) fun t => t.pair n = f true) :=
  runs_fpWrite (P := fun v => v = lowDword (f false)) (Q := fun v => v = f true) he (fun _ => rfl) fun _ => rfl

/-! ## One operand and two -/

section
variable {f : Bool → BitVec 2 → QWord → QWord}

theorem fpArith1_single (h : s.fpPr = false) :
    fpArith1 f n s = fpWrite n (fun _ => f false s.fpRm (zeroExt (s.frReg n))) s :=
  fpRead_single h

theorem fpArith1_double (h : s.fpPr = true) (hn : s.pairOk n = true) :
    fpArith1 f n s = fpWrite n (fun _ => f true s.fpRm (s.pair n)) s :=
  fpRead_double h hn

/-- One operand in place. -/
theorem runs_fpArith1 {P : DWord → Prop} {Q : QWord → Prop} (he : exec i s = fpArith1 f n s)
    (hP : P (lowDword (f false s.fpRm (zeroExt (s.frReg n))))) (hQ : Q (f true s.fpRm (s.pair n))) :
    (s.fpPr = false → Runs .short i s [.fr n] fun t => P (t.frReg n)) ∧
    (s.fpPr = true → s.pairOk n = true → Runs .short i s (Part.pair n) fun t => Q (t.pair n)) :=
  ⟨fun h => runs_setFrReg hP (he.trans ((fpArith1_single h).trans (fpWrite_single h))),
    fun h hn => runs_setPair hQ (he.trans ((fpArith1_double h hn).trans (fpWrite_double h hn)))⟩
end

section
variable {f : FpNumerics → Bool → BitVec 2 → QWord → QWord → QWord}

theorem fpArith2_single (h : s.fpPr = false) : fpArith2 f m n s =
    fpWrite n (fun _ => f s.launch.fpNumerics false s.fpRm (zeroExt (s.frReg n)) (zeroExt (s.frReg m))) s :=
  (fpRead_single h).trans (fpRead_single h)

theorem fpArith2_double (h : s.fpPr = true) (hm : s.pairOk m = true) (hn : s.pairOk n = true) :
    fpArith2 f m n s = fpWrite n (fun _ => f s.launch.fpNumerics true s.fpRm (s.pair n) (s.pair m)) s :=
  (fpRead_double h hm).trans (fpRead_double h hn)

/-- Two operands, the one written on the left. -/
theorem runs_fpArith2 (he : exec i s = fpArith2 f m n s) :
    (s.fpPr = false → Runs .short i s [.fr n] fun t =>
      t.frReg n = lowDword (f s.launch.fpNumerics false s.fpRm (zeroExt (s.frReg n)) (zeroExt (s.frReg m)))) ∧
    (s.fpPr = true → s.pairOk m = true → s.pairOk n = true → Runs .short i s (Part.pair n) fun t =>
      t.pair n = f s.launch.fpNumerics true s.fpRm (s.pair n) (s.pair m)) :=
  ⟨fun h => (runs_fpConst (he.trans (fpArith2_single h))).1 h,
    fun h hm hn => (runs_fpConst (he.trans (fpArith2_double h hm hn))).2 h hn⟩
end

section
variable {f : FpNumerics → Bool → BitVec 2 → QWord → QWord → Bool}

/-- A flag takes the outcome of a compare. -/
theorem runs_compared {b : Bool} (he : exec i s = .next ((s.setT b).retire .short)) :
    Runs .short i s [.t] fun t => t.flagT = b :=
  runs_next he ((State.flagT_retire _ _).trans (State.flagT_setT s b)) (keeps_setT s b) rfl rfl

/-- Two operands compared. -/
theorem runs_fpCompare (he : exec i s = fpCompare f m n s) :
    (s.fpPr = false → Runs .short i s [.t] fun t =>
      t.flagT = f s.launch.fpNumerics false s.fpRm (zeroExt (s.frReg n)) (zeroExt (s.frReg m))) ∧
    (s.fpPr = true → s.pairOk m = true → s.pairOk n = true → Runs .short i s [.t] fun t =>
      t.flagT = f s.launch.fpNumerics true s.fpRm (s.pair n) (s.pair m)) :=
  ⟨fun h => runs_compared (he.trans ((fpRead_single h).trans (fpRead_single h))),
    fun h hm hn => runs_compared (he.trans ((fpRead_double h hm).trans (fpRead_double h hn)))⟩
end
end

/-! ## Arithmetic -/

/-- Settles O52: each by its shape and its numeric function. -/
theorem floatArithmeticRuns : Obligations.FloatArithmeticRuns := fun s hfpu =>
  ⟨fun _ _ => runs_fpArith2 (fpuGuard_next hfpu), fun _ _ => runs_fpArith2 (fpuGuard_next hfpu),
    fun _ _ => runs_fpArith2 (fpuGuard_next hfpu), fun _ _ => runs_fpArith2 (fpuGuard_next hfpu),
    fun n => runs_fpArith1
      (P := fun v => v = lowDword (numSqrt s.launch.fpNumerics false s.fpRm (zeroExt (s.frReg n))))
      (Q := fun v => v = numSqrt s.launch.fpNumerics true s.fpRm (s.pair n)) (fpuGuard_next hfpu) rfl rfl,
    fun m n hpr => runs_setFrReg (P := fun v => v = lowDword (numMac s.launch.fpNumerics s.fpRm
      (zeroExt (s.frReg 0#4)) (zeroExt (s.frReg m)) (zeroExt (s.frReg n)))) rfl
      ((onlyWhenPr_next hpr).trans (fpuGuard_next hfpu)),
    fun vm vn hpr => runs_setFrReg (P := fun v => v = lowDword (numIpr s.launch.fpNumerics s.fpRm
      (s.vecElem vn 0#2) (s.vecElem vm 0#2) [(s.vecElem vn 1#2, s.vecElem vm 1#2),
        (s.vecElem vn 2#2, s.vecElem vm 2#2), (s.vecElem vn 3#2, s.vecElem vm 3#2)])) rfl
      ((onlyWhenPr_next hpr).trans (fpuGuard_next hfpu))⟩

/-! ## Compares and conversions -/

/-- FTRC by the truncation of its operand, which the default numerics may leave open. -/
theorem runs_truncated {s : State} {i : Instr} {r : Option DWord}
    (hsome : ∀ v, r = some v → exec i s = .next ({ s with fpul := v }.retire .short))
    (hnone : r = none → exec i s = .next ({ s.drawn with fpul := lowDword s.freeNow }.retire .short)) :
    (∀ v, r = some v → Runs .short i s [.fpul] fun t => t.fpul = v) ∧
    (r = none → Runs .short i s [.fpul, .freeIndex] fun t =>
      t.fpul = lowDword (Config.freeValue s.freeIndex) ∧ t.freeIndex = s.freeIndex + 1) := by
  refine ⟨fun v h => runs_writeFpul (P := fun x => x = v) (hsome v h) rfl, fun h => ?_⟩
  refine runs_next (hnone h) ⟨State.retire_fpul _ _, State.retire_freeIndex _ _⟩
    (((keeps_drawn s).trans (keeps_fpul _ _)).mono (by simp)) rfl rfl

/-- FTRC by FPSCR.PR. -/
theorem ftrc_run (s : State) (hfpu : s.FpuPresent) (m : BitVec 4) :
    (s.fpPr = false →
      (∀ i, numToInt s.launch.fpNumerics false s.fpRm (zeroExt (s.frReg m)) = some i →
        Runs .short (.ftrc m) s [.fpul] fun t => t.fpul = i) ∧
      (numToInt s.launch.fpNumerics false s.fpRm (zeroExt (s.frReg m)) = none →
        Runs .short (.ftrc m) s [.fpul, .freeIndex] fun t =>
        t.fpul = lowDword (Config.freeValue s.freeIndex) ∧ t.freeIndex = s.freeIndex + 1)) ∧
    (s.fpPr = true → s.pairOk m = true →
      (∀ i, numToInt s.launch.fpNumerics true s.fpRm (s.pair m) = some i →
        Runs .short (.ftrc m) s [.fpul] fun t => t.fpul = i) ∧
      (numToInt s.launch.fpNumerics true s.fpRm (s.pair m) = none →
        Runs .short (.ftrc m) s [.fpul, .freeIndex] fun t =>
        t.fpul = lowDword (Config.freeValue s.freeIndex) ∧ t.freeIndex = s.freeIndex + 1)) := by
  refine ⟨fun hpr => ?_, fun hpr hm => ?_⟩
  · have he : exec (.ftrc m) s = _ := (fpuGuard_next hfpu).trans (fpRead_single hpr)
    exact runs_truncated (fun v h => he.trans (by rw [h])) fun h => he.trans (by rw [h])
  · have he : exec (.ftrc m) s = _ := (fpuGuard_next hfpu).trans (fpRead_double hpr hm)
    exact runs_truncated (fun v h => he.trans (by rw [h])) fun h => he.trans (by rw [h])

/-- Settles O53: each by its shape and its numeric function. -/
theorem floatComparesAndConversionsRun : Obligations.FloatComparesAndConversionsRun := fun s hfpu =>
  ⟨fun _ _ => runs_fpCompare (fpuGuard_next hfpu), fun _ _ => runs_fpCompare (fpuGuard_next hfpu),
    fun _ => runs_fpConst (f := fun dbl => numFromInt s.launch.fpNumerics dbl s.fpRm s.fpul) (fpuGuard_next hfpu),
    ftrc_run s hfpu,
    fun m hpr hm => runs_writeFpul (P := fun v => v = numNarrow s.launch.fpNumerics s.fpRm (s.pair m))
      ((onlyWhenPr_next hpr).trans ((fpuGuard_next hfpu).trans (needPair_next hm))) rfl,
    fun _ hpr hn => runs_setPair (P := fun v => v = numWiden s.launch.fpNumerics s.fpRm s.fpul) rfl
      ((onlyWhenPr_next hpr).trans ((fpuGuard_next hfpu).trans (needPair_next hn)))⟩

/-! ## Moves between registers -/

theorem clearSign_single_bit (v : DWord) :
    ∀ i < 32, (lowDword (clearSign false (zeroExt v))).getLsbD i = (decide (i < 31) && v.getLsbD i) := by
  intro i hi
  simp only [clearSign, zeroExt, lowDword, BitVec.getLsbD_setWidth]
  grind

theorem clearSign_double_bit (v : QWord) :
    ∀ i < 64, (clearSign true v).getLsbD i = (decide (i < 63) && v.getLsbD i) := by
  intro i hi
  simp only [clearSign, if_true, BitVec.getLsbD_append, BitVec.getLsbD_extractLsb']
  grind

theorem flipSign_single_bit (v : DWord) :
    ∀ i < 32, (lowDword (flipSign false (zeroExt v))).getLsbD i = (decide (i = 31) ^^ v.getLsbD i) := by
  intro i hi
  simp only [flipSign, zeroExt, lowDword, BitVec.getLsbD_setWidth]
  grind

theorem flipSign_double_bit (v : QWord) :
    ∀ i < 64, (flipSign true v).getLsbD i = (decide (i = 63) ^^ v.getLsbD i) := by
  intro i hi
  simp only [flipSign, if_true, BitVec.getLsbD_append, BitVec.getLsbD_extractLsb']
  grind

/-- FMOV between registers by FPSCR.SZ. -/
theorem exec_fmov (m n : BitVec 4) (s : State) : exec (.fmov m n) s = fpuGuard s
    (if s.fpSz then needPair m s (needPair n s (.next ((s.setPair n (s.pair m)).retire .short)))
     else .next ((s.setFrReg n (s.frReg m)).retire .short)) := rfl

theorem fmov_run (s : State) (hfpu : s.FpuPresent) (m n : BitVec 4) :
    (s.fpSz = false → Runs .short (.fmov m n) s [.fr n] fun t => t.frReg n = s.frReg m) ∧
    (s.fpSz = true → s.pairOk m = true → s.pairOk n = true → Runs .short (.fmov m n) s (Part.pair n) fun t =>
      t.pair n = s.pair m) := by
  have he := (exec_fmov m n s).trans (fpuGuard_next hfpu)
  refine ⟨fun h => ?_, fun h hm hn => ?_⟩
  · exact runs_setFrReg (P := fun v => v = s.frReg m) rfl (he.trans (if_neg (by simp [h])))
  · exact runs_setPair (P := fun v => v = s.pair m) rfl
      (he.trans ((if_pos h).trans ((needPair_next hm).trans (needPair_next hn))))

/-- Settles O54: each by the bits it keeps, clears or inverts. -/
theorem floatMovesRun : Obligations.FloatMovesRun := fun s hfpu =>
  ⟨fun n => runs_fpArith1
      (P := fun v : DWord => ∀ i < 32, v.getLsbD i = (decide (i < 31) && (s.frReg n).getLsbD i))
      (Q := fun v : QWord => ∀ i < 64, v.getLsbD i = (decide (i < 63) && (s.pair n).getLsbD i))
      (fpuGuard_next hfpu) (clearSign_single_bit _) (clearSign_double_bit _),
    fun n => runs_fpArith1
      (P := fun v : DWord => ∀ i < 32, v.getLsbD i = (decide (i = 31) ^^ (s.frReg n).getLsbD i))
      (Q := fun v : QWord => ∀ i < 64, v.getLsbD i = (decide (i = 63) ^^ (s.pair n).getLsbD i))
      (fpuGuard_next hfpu) (flipSign_single_bit _) (flipSign_double_bit _),
    fun _ => runs_fpConst (f := fun _ => 0#64) (fpuGuard_next hfpu),
    fun _ => runs_fpConst (f := fpOne) (fpuGuard_next hfpu),
    fun m => runs_writeFpul (P := fun v => v = s.frReg m) (fpuGuard_next hfpu) rfl, fmov_run s hfpu⟩

/-! ## Modes -/

theorem exec_psetmd4 (imm : BitVec 4) (s : State) : exec (.psetmd4 imm) s = fpuGuard s
    (if imm.getLsbD 0 then .refused (.fpscrUnsupported s.pc)
     else .next ({ s with fpscr := setMode s.fpscr imm }.retire .short)) := rfl

/-- The bits PSETMD4 leaves. -/
theorem setMode_bit (v : DWord) (imm : Nibble) (i : Nat) : (setMode v imm).getLsbD i =
    if i = 21 then imm.getLsbD 0 else if i = 19 then imm.getLsbD 2 else if i = 20 then imm.getLsbD 3
    else !imm.getLsbD 1 && v.getLsbD i := by
  rw [setMode, setBitTo_bit _ _ _ _ (by decide), setBitTo_bit _ _ _ _ (by decide), setBitTo_bit _ _ _ _ (by decide)]
  cases imm.getLsbD 1 <;> simp [Config.fpscrFr, Config.fpscrPr, Config.fpscrSz]

/-- Settles O57: the immediate's bits in FPSCR, or the refusal of FR. -/
theorem modeSettingRuns : Obligations.ModeSettingRuns := by
  intro s imm hfpu
  have he := (exec_psetmd4 imm s).trans (fpuGuard_next hfpu)
  refine ⟨fun h0 => ?_, fun h0 => he.trans (if_pos h0)⟩
  refine runs_next (he.trans (if_neg (Bool.eq_false_iff.1 h0))) ?_ (keeps_fpscr s _) rfl rfl
  simp only [State.fpSz, State.fpPr, State.retire_fpscr, setMode_bit]
  refine ⟨rfl, rfl, h0, fun i _ h19 h20 h21 => ?_⟩
  rw [if_neg h21, if_neg h19, if_neg h20]

/-! ## Where these forms stop -/

theorem onlyWhenPr_illegal {s : State} {pr : Bool} {k : Result} (h : s.fpPr ≠ pr) :
    onlyWhenPr pr s k = raiseIllegal s := if_neg h

/-- In the Basic profile an odd number is no pair. -/
theorem pairOk_odd {s : State} {r : Nibble} (hb : s.launch.fpuProfile = .basic) (hr : r.getLsbD 0 = true) :
    s.pairOk r = false := by
  simp [State.pairOk, hb, hr]

theorem pairOk_even {s : State} {r : Nibble} (hr : r.getLsbD 0 = false) : s.pairOk r = true := by
  rw [State.pairOk, hr]
  rfl

theorem needPair_odd {s : State} {r : Nibble} {k : Result} (hb : s.launch.fpuProfile = .basic)
    (hr : r.getLsbD 0 = true) : needPair r s k = .refused (.oddPairBasic s.pc) :=
  if_neg (by simp [pairOk_odd hb hr])

section
variable {s : State} {m n : Nibble} (hb : s.launch.fpuProfile = .basic)
include hb

/-- A guard of two pairs refuses where either is odd. -/
theorem needPair_either_odd {k : Result} (h : m.getLsbD 0 = true ∨ n.getLsbD 0 = true) :
    needPair m s (needPair n s k) = .refused (.oddPairBasic s.pc) := by
  cases hm : m.getLsbD 0 with
  | true => exact needPair_odd hb hm
  | false => rw [needPair_next (pairOk_even hm), needPair_odd hb (h.resolve_left (Bool.eq_false_iff.1 hm))]

theorem fpRead_odd {k : Bool → QWord → Result} (hpr : s.fpPr = true) (hn : n.getLsbD 0 = true) :
    fpRead n k s = .refused (.oddPairBasic s.pc) :=
  (if_pos hpr).trans (needPair_odd hb hn)

theorem fpWrite_odd {v : Bool → QWord} (hpr : s.fpPr = true) (hn : n.getLsbD 0 = true) :
    fpWrite n v s = .refused (.oddPairBasic s.pc) :=
  (if_pos hpr).trans (needPair_odd hb hn)

/-- Two reads refuse where either is of an odd pair. -/
theorem fpRead_either_odd {k : Bool → QWord → Bool → QWord → Result} (hpr : s.fpPr = true)
    (h : m.getLsbD 0 = true ∨ n.getLsbD 0 = true) :
    fpRead m (fun dbl b => fpRead n (fun c a => k dbl b c a) s) s = .refused (.oddPairBasic s.pc) := by
  cases hm : m.getLsbD 0 with
  | true => exact fpRead_odd hb hpr hm
  | false => rw [fpRead_double hpr (pairOk_even hm), fpRead_odd hb hpr (h.resolve_left (Bool.eq_false_iff.1 hm))]

theorem fmovLoad_odd {ea : QWord} {r : BitVec 5} {inc : Bool} (hsz : s.fpSz = true) (hn : n.getLsbD 0 = true) :
    fmovLoad ea r inc n s = .refused (.oddPairBasic s.pc) :=
  (if_pos hsz).trans (needPair_odd hb hn)

theorem fmovStore_odd {ea : QWord} {base : State → State} (hsz : s.fpSz = true) (hm : m.getLsbD 0 = true) :
    fmovStore ea m base s = .refused (.oddPairBasic s.pc) :=
  (if_pos hsz).trans (needPair_odd hb hm)
end

/-- Settles O60: the mode an encoding needs, and the pairs of the Basic profile. -/
theorem wrongModeOrPairStops : Obligations.WrongModeOrPairStops := by
  intro s
  refine ⟨fun h => ⟨fun _ _ => onlyWhenPr_illegal (by simp [h]), fun _ _ => onlyWhenPr_illegal (by simp [h])⟩,
    fun h => ⟨fun _ => onlyWhenPr_illegal (by simp [h]), fun _ => onlyWhenPr_illegal (by simp [h])⟩,
    raiseIllegal_outside, raiseIllegal_inSlot, fun hb m n => ?_⟩
  have guard {k : Result} : fpuGuard s k = k := fpuGuard_next (by simp [hb])
  refine ⟨fun hpr h => ?_, fun hpr h => ?_, fun hpr h => ?_, fun hsz h => ?_, fun hsz h => ?_, fun hsz h => ?_⟩
  · exact ⟨guard.trans (fpRead_either_odd hb hpr h), guard.trans (fpRead_either_odd hb hpr h),
      guard.trans (fpRead_either_odd hb hpr h), guard.trans (fpRead_either_odd hb hpr h),
      guard.trans (fpRead_either_odd hb hpr h), guard.trans (fpRead_either_odd hb hpr h)⟩
  · exact ⟨guard.trans (fpRead_odd hb hpr h), guard.trans (fpWrite_odd hb hpr h), guard.trans (fpRead_odd hb hpr h),
      guard.trans (fpRead_odd hb hpr h), guard.trans (fpWrite_odd hb hpr h), guard.trans (fpWrite_odd hb hpr h),
      (onlyWhenPr_next hpr).trans (guard.trans (needPair_odd hb h))⟩
  · exact ⟨guard.trans (fpRead_odd hb hpr h), (onlyWhenPr_next hpr).trans (guard.trans (needPair_odd hb h))⟩
  · exact (exec_fmov m n s).trans (guard.trans ((if_pos hsz).trans (needPair_either_odd hb h)))
  · exact ⟨guard.trans (fmovLoad_odd hb hsz h), guard.trans (fmovLoad_odd hb hsz h),
      guard.trans (fmovLoad_odd hb hsz h)⟩
  · exact ⟨guard.trans (fmovStore_odd hb hsz h), guard.trans (fmovStore_odd hb hsz h),
      guard.trans (fmovStore_odd hb hsz h)⟩

end Sys2Proof.Machine
end

section
/-!
Floating-point loads and stores (46_fpu.md R387, R388): a Single or, with FPSCR.SZ set, the two words of a pair; the
forms of one shape differ in their address and in what becomes of the base register.
-/
namespace Sys2Proof.Machine

/-! ## The base register -/

/-- `base` changes at most the general registers of `p`, and leaves `P`. -/
structure ChangesBase (base : State → State) (p : List Part) (P : State → Prop) : Prop where
  keeps : ∀ t : State, t.KeepsBut (base t) p
  mem : ∀ t : State, (base t).mem = t.mem
  launch : ∀ t : State, (base t).launch = t.launch
  pc : ∀ t : State, (base t).pc = t.pc
  pending : ∀ t : State, (base t).pending = t.pending
  fr : ∀ t : State, (base t).fr = t.fr
  xf : ∀ t : State, (base t).xf = t.xf
  after : ∀ t : State, P ((base t).retire .short)

theorem changesBase_none : ChangesBase (fun t => t) [] fun _ => True :=
  ⟨fun t => State.KeepsBut.refl t [], fun _ => rfl, fun _ => rfl, fun _ => rfl, fun _ => rfl, fun _ => rfl,
    fun _ => rfl, fun _ => trivial⟩

theorem changesBase_setReg (r : BitVec 5) (v : QWord) :
    ChangesBase (fun t => t.setReg r v) [.reg r] fun t => t.reg r = v :=
  ⟨fun t => keeps_setReg t r v, fun _ => rfl, fun _ => rfl, fun _ => rfl, fun _ => rfl, fun _ => rfl, fun _ => rfl,
    fun t => (State.reg_retire _ .short r).trans (State.reg_setReg_self t r v)⟩

theorem fmovBytes_single {s : State} (h : s.fpSz = false) : s.fmovBytes = 4#64 := if_neg (by simp [h])

theorem fmovBytes_pair {s : State} (h : s.fpSz = true) : s.fmovBytes = 8#64 := if_pos h

theorem setPair_gpr (s : State) (n : Nibble) (v : QWord) : (s.setPair n v).gpr = s.gpr := by
  unfold State.setPair
  split <;> rfl

theorem setPair_fpSz (s : State) (n : Nibble) (v : QWord) : (s.setPair n v).fpSz = s.fpSz := by
  unfold State.setPair
  split <;> rfl

/-- An increment by the size of a Single. -/
theorem fmovInc_setFrReg {s : State} (h : s.fpSz = false) (r : BitVec 5) (n : Nibble) (v : DWord) :
    (s.setFrReg n v).fmovInc r true = (s.setFrReg n v).setReg r (s.reg r + 4#64) :=
  congrArg (fun b => (s.setFrReg n v).setReg r (s.reg r + b)) (fmovBytes_single h)

/-- An increment by the size of a pair. -/
theorem fmovInc_setPair {s : State} (h : s.fpSz = true) (r : BitVec 5) (n : Nibble) (v : QWord) :
    (s.setPair n v).fmovInc r true = (s.setPair n v).setReg r (s.reg r + 8#64) := by
  rw [State.fmovInc, if_pos rfl, fmovBytes_pair ((setPair_fpSz s n v).trans h),
    State.reg_of_gpr (setPair_gpr s n v)]

/-! ## Loads -/

/-- A floating-point load at `ea`, of a Single (then `P`) or of a pair (then `Q`), that changes `p` besides. -/
def LoadsFloat (i : Instr) (s : State) (ea : QWord) (n : Nibble) (p : List Part) (P Q : State → Prop) : Prop :=
  (s.fpSz = false → RunsLoad .short i s ea 4 ([.fr n] ++ p) fun v t => (t.frReg n).toNat = v ∧ P t) ∧
  (∀ a b, s.fpSz = true → s.pairOk n = true → s.accessOk .read ea 8 = true → s.Loads ea 4 a →
    s.Loads (ea + 4#64) 4 b → Runs .short i s (Part.pair n ++ p) fun t =>
      t.pair n = (if s.fpPr = true then BitVec.ofNat 32 b ++ BitVec.ofNat 32 a
        else BitVec.ofNat 32 a ++ BitVec.ofNat 32 b : QWord) ∧ Q t) ∧
  (s.fpSz = true → s.pairOk n = true → s.accessOk .read ea 8 = false ∨ s.accessOk .read ea 4 = false →
    exec i s = raise (.addressError ea .read) s) ∧
  (s.fpSz = true → s.pairOk n = true → s.accessOk .read ea 8 = true → s.accessOk .read ea 4 = true →
    s.accessOk .read (ea + 4#64) 4 = false → exec i s = raise (.addressError (ea + 4#64) .read) s)

section
variable {i : Instr} {s : State} {ea : QWord} {r : BitVec 5} {n m : Nibble} {p : List Part} {P Q : State → Prop}
  {base base' : State → State}

/-- The load of a Single. -/
theorem runsLoad_single (hb : ChangesBase base p P)
    (he : exec i s = load ea 4 s fun v => .next ((base (s.setFrReg n (BitVec.ofNat 32 v))).retire .short)) :
    RunsLoad .short i s ea 4 ([.fr n] ++ p) fun v t => (t.frReg n).toNat = v ∧ P t := by
  refine ⟨fun v hv => runs_next (he.trans (load_next hv)) ⟨?_, hb.after _⟩
    ((keeps_setFrReg s n _).trans (hb.keeps _)) (hb.pc _) (hb.pending _), fun h => he.trans (load_raises h)⟩
  have hlt : v < 2 ^ 32 := by simpa using memRead_lt hv.2
  rw [State.frReg_retire, State.frReg_of_fr (hb.fr _), State.frReg_setFrReg, if_pos rfl, BitVec.toNat_ofNat,
    Nat.mod_eq_of_lt hlt]

/-- A pair written and the base register after it. -/
theorem runs_setPair_base {v : QWord} (hb : ChangesBase base p P)
    (he : exec i s = .next ((base (s.setPair n v)).retire .short)) :
    Runs .short i s (Part.pair n ++ p) fun t => t.pair n = v ∧ P t := by
  refine runs_next he ⟨?_, hb.after _⟩ ((keeps_setPair s n v).trans (hb.keeps _))
    ((hb.pc _).trans (setPair_pc s n v)) ((hb.pending _).trans (setPair_pending s n v))
  rw [State.pair_retire, State.pair_of_banks (hb.fr _) (hb.xf _), State.pair_setPair]

theorem fmovLoad_single {inc : Bool} (h : s.fpSz = false) : fmovLoad ea r inc n s =
    load ea 4 s fun v => .next (((s.setFrReg n (BitVec.ofNat 32 v)).fmovInc r inc).retire .short) :=
  if_neg (by simp [h])

theorem fmovLoad_pair {inc : Bool} (h : s.fpSz = true) (hn : s.pairOk n = true) : fmovLoad ea r inc n s =
    loadTwo ea s fun a b =>
      .next (((s.setPair n (if s.fpPr then b ++ a else a ++ b)).fmovInc r inc).retire .short) :=
  (if_pos h).trans (needPair_next hn)

/-- A floating-point load, by what its increment does after a Single and after a pair. -/
theorem loadsFloat_of {inc : Bool} (he : exec i s = fmovLoad ea r inc n s) (hb : ChangesBase base p P)
    (hb' : ChangesBase base' p Q)
    (hinc : s.fpSz = false → ∀ v, (s.setFrReg n v).fmovInc r inc = base (s.setFrReg n v))
    (hinc' : s.fpSz = true → ∀ v, (s.setPair n v).fmovInc r inc = base' (s.setPair n v)) :
    LoadsFloat i s ea n p P Q := by
  refine ⟨fun h => ?_, fun a b h hn h8 ha hb => ?_, fun h hn hr => ?_, fun h hn h8 h4 hr => ?_⟩
  · refine runsLoad_single hb (he.trans ((fmovLoad_single h).trans ?_))
    simp only [hinc h]
  · exact runs_setPair_base hb' (he.trans ((fmovLoad_pair h hn).trans ((loadTwo_next h8 ha hb).trans
      (by rw [hinc' h]))))
  · exact he.trans ((fmovLoad_pair h hn).trans (loadTwo_raises.1 hr))
  · exact he.trans ((fmovLoad_pair h hn).trans (loadTwo_raises.2 h8 h4 hr))

/-- A load that leaves its base. -/
theorem loadsFloat_plain (he : exec i s = fmovLoad ea r false n s) :
    LoadsFloat i s ea n [] (fun _ => True) fun _ => True :=
  loadsFloat_of he changesBase_none changesBase_none (fun _ _ => rfl) fun _ _ => rfl

/-- A load that increases its base by what it read. -/
theorem loadsFloat_inc (he : exec i s = fmovLoad ea r true n s) :
    LoadsFloat i s ea n [.reg r] (fun t => t.reg r = s.reg r + 4#64) fun t => t.reg r = s.reg r + 8#64 :=
  loadsFloat_of he (changesBase_setReg r _) (changesBase_setReg r _) (fun h => fmovInc_setFrReg h r n)
    fun h => fmovInc_setPair h r n

theorem RunsLoad.mono {l : Len} {k : Nat} {a b : List Part} {F G : Nat → State → Prop} (h : RunsLoad l i s ea k a F)
    (hs : a ⊆ b) (hq : ∀ v t, F v t → G v t) : RunsLoad l i s ea k b G :=
  ⟨fun v hv => (h.1 v hv).mono hs (hq v), h.2⟩

/-- A load that leaves its base says nothing of it. -/
theorem LoadsFloat.of_plain (h : LoadsFloat i s ea n [] (fun _ => True) fun _ => True) :
    (s.fpSz = false → RunsLoad .short i s ea 4 [.fr n] fun v t => (t.frReg n).toNat = v) ∧
    (∀ a b, s.fpSz = true → s.pairOk n = true → s.accessOk .read ea 8 = true → s.Loads ea 4 a →
      s.Loads (ea + 4#64) 4 b → Runs .short i s (Part.pair n) fun t =>
        t.pair n = (if s.fpPr = true then BitVec.ofNat 32 b ++ BitVec.ofNat 32 a
          else BitVec.ofNat 32 a ++ BitVec.ofNat 32 b : QWord)) ∧
    (s.fpSz = true → s.pairOk n = true → s.accessOk .read ea 8 = false ∨ s.accessOk .read ea 4 = false →
      exec i s = raise (.addressError ea .read) s) ∧
    (s.fpSz = true → s.pairOk n = true → s.accessOk .read ea 8 = true → s.accessOk .read ea 4 = true →
      s.accessOk .read (ea + 4#64) 4 = false → exec i s = raise (.addressError (ea + 4#64) .read) s) := by
  obtain ⟨hsingle, hpair, hraises⟩ := h
  exact ⟨fun hsz => (hsingle hsz).mono (by simp) fun _ _ ht => ht.1,
    fun a b hsz hn h8 ha hb => (hpair a b hsz hn h8 ha hb).mono (by simp) fun _ ht => ht.1, hraises⟩
end

/-- Settles O55: each by its address and its increment. -/
theorem floatLoadsRun : Obligations.FloatLoadsRun := fun _ hfpu =>
  ⟨fun _ _ => LoadsFloat.of_plain (loadsFloat_plain (fpuGuard_next hfpu)),
    fun _ _ => LoadsFloat.of_plain (loadsFloat_plain (fpuGuard_next hfpu)),
    fun _ _ => loadsFloat_inc (fpuGuard_next hfpu)⟩

/-! ## Stores -/

/-- What bytes hold, they hold after a write above them. -/
theorem State.Holds.writeMem_above {t : State} {a b : QWord} {n k v w : Nat} (h : t.Holds a n v)
    (hle : t.launch.locate a + n ≤ t.launch.locate b) : (t.writeMem b k w).Holds a n v := by
  intro j hj
  have hout : ¬(t.launch.locate b ≤ t.launch.locate a + j ∧ t.launch.locate a + j < t.launch.locate b + k) := by omega
  simp only [State.writeMem_launch, State.writeMem_mem, memGet_memWrite, if_neg hout]
  exact h j hj

/-- The low word of a pair holds the pair's low bytes, the high word those above 32 bits. -/
theorem lowDword_toNat_mod (v : QWord) : (lowDword v).toNat % 256 ^ 4 = v.toNat % 256 ^ 4 := by
  rw [lowDword, BitVec.toNat_setWidth]
  exact Nat.mod_mod _ _

theorem highDword_toNat_mod (v : QWord) : (v.extractLsb' 32 32).toNat % 256 ^ 4 = v.toNat / 2 ^ 32 % 256 ^ 4 := by
  rw [BitVec.extractLsb'_toNat, Nat.shiftRight_eq_div_pow]
  exact Nat.mod_mod _ _

section
variable {i : Instr} {s : State} {ea : QWord} {n m : Nibble} {p : List Part} {P : State → Prop} {base : State → State}

/-- The store of a Single. -/
theorem runsStore_single (hb : ChangesBase base p P)
    (he : exec i s = store ea 4 (s.frReg m).toNat s fun t => .next ((base t).retire .short)) :
    RunsStore .short i s ea 4 (s.frReg m).toNat p P := by
  refine ⟨fun h => (runs_next (he.trans (store_next h)) ⟨?_, hb.after _⟩
    ((keeps_writeMem s ea 4 _).trans (hb.keeps _)) (hb.pc _) (hb.pending _)).mono (by simp) fun _ ht => ht,
    fun h => he.trans (store_raises h)⟩
  exact (holds_writeMem s ea 4 _).of_mem (by simp [hb.mem]) (by simp [hb.launch])

/-- Two words stored one above the other. -/
theorem runs_storeTwo {a b : DWord} (hb : ChangesBase base p P)
    (he : exec i s = storeTwo ea a b s fun t => .next ((base t).retire .short))
    (h8 : s.Stores ea 8) (h4 : s.Stores ea 4) (h4' : s.Stores (ea + 4#64) 4) :
    Runs .short i s (p ++ s.bytesAt ea 4 ++ s.bytesAt (ea + 4#64) 4) fun t =>
      t.Holds ea 4 a.toNat ∧ t.Holds (ea + 4#64) 4 b.toNat ∧ P t := by
  have hle : s.launch.locate ea + 8 ≤ s.launch.space := accessOk_le h8
  have hlocate : s.launch.locate (ea + 4#64) = s.launch.locate ea + 4 := s.launch.locate_add ea 4 (by omega)
  have hlow : ((s.writeMem ea 4 a.toNat).writeMem (ea + 4#64) 4 b.toNat).Holds ea 4 a.toNat :=
    (holds_writeMem s ea 4 a.toNat).writeMem_above hlocate.ge
  have hhigh := holds_writeMem (s.writeMem ea 4 a.toNat) (ea + 4#64) 4 b.toNat
  have hmem {t : State} : ((base t).retire .short).mem = t.mem := (State.retire_mem _ .short).trans (hb.mem t)
  have hlaunch {t : State} : ((base t).retire .short).launch = t.launch :=
    (State.retire_launch _ .short).trans (hb.launch t)
  have hkeeps := ((keeps_writeMem s ea 4 a.toNat).trans (keeps_writeMem _ (ea + 4#64) 4 b.toNat)).trans (hb.keeps _)
  refine runs_next (he.trans (storeTwo_next h8 h4 h4'))
    ⟨hlow.of_mem hmem hlaunch, hhigh.of_mem hmem hlaunch, hb.after _⟩ (hkeeps.mono fun x hx => ?_) (hb.pc _)
    (hb.pending _)
  rw [List.append_assoc, List.mem_append, or_comm]
  exact List.mem_append.1 hx

theorem fmovStore_single (h : s.fpSz = false) : fmovStore ea m base s =
    store ea 4 (s.frReg m).toNat s fun t => .next ((base t).retire .short) :=
  if_neg (by simp [h])

theorem fmovStore_pair (h : s.fpSz = true) (hm : s.pairOk m = true) : fmovStore ea m base s =
    storeTwo ea (if s.fpPr then lowDword (s.pair m) else (s.pair m).extractLsb' 32 32)
      (if s.fpPr then (s.pair m).extractLsb' 32 32 else lowDword (s.pair m)) s
      fun t => .next ((base t).retire .short) :=
  (if_pos h).trans (needPair_next hm)

theorem storeTwo_raises {a b : DWord} {k : State → Result} :
    (s.accessOk .write ea 8 = false ∨ s.accessOk .write ea 4 = false →
      storeTwo ea a b s k = raise (.addressError ea .write) s) ∧
    (s.accessOk .write ea 8 = true → s.accessOk .write ea 4 = true → s.accessOk .write (ea + 4#64) 4 = false →
      storeTwo ea a b s k = raise (.addressError (ea + 4#64) .write) s) :=
  ⟨by rintro (h | h) <;> simp [storeTwo, h], fun h8 h4 h => by simp [storeTwo, h8, h4, h]⟩

/-- A pair stored at `ea`: the word at the lower address is the one FPSCR.PR names. -/
theorem runs_fmovStore_pair (hb : ChangesBase base p P) (he : s.fpSz = true → exec i s = fmovStore ea m base s) :
    (s.fpSz = true → s.pairOk m = true → s.Stores ea 8 → s.Stores ea 4 → s.Stores (ea + 4#64) 4 →
      Runs .short i s (p ++ s.bytesAt ea 4 ++ s.bytesAt (ea + 4#64) 4) fun t =>
        t.Holds ea 4 (if s.fpPr = true then (s.pair m).toNat else (s.pair m).toNat / 2 ^ 32) ∧
        t.Holds (ea + 4#64) 4 (if s.fpPr = true then (s.pair m).toNat / 2 ^ 32 else (s.pair m).toNat) ∧ P t) ∧
    (s.fpSz = true → s.pairOk m = true → s.accessOk .write ea 8 = false ∨ s.accessOk .write ea 4 = false →
      exec i s = raise (.addressError ea .write) s) ∧
    (s.fpSz = true → s.pairOk m = true → s.Stores ea 8 → s.Stores ea 4 → s.accessOk .write (ea + 4#64) 4 = false →
      exec i s = raise (.addressError (ea + 4#64) .write) s) := by
  refine ⟨fun hsz hm h8 h4 h4' => ?_, fun hsz hm hr => ?_, fun hsz hm h8 h4 hr => ?_⟩
  · refine (runs_storeTwo hb ((he hsz).trans (fmovStore_pair hsz hm)) h8 h4 h4').mono (List.Subset.refl _)
      fun t ⟨hlow, hhigh, ht⟩ => ⟨hlow.congr ?_, hhigh.congr ?_, ht⟩
    · cases s.fpPr with
      | true => exact lowDword_toNat_mod (s.pair m)
      | false => exact highDword_toNat_mod (s.pair m)
    · cases s.fpPr with
      | true => exact highDword_toNat_mod (s.pair m)
      | false => exact lowDword_toNat_mod (s.pair m)
  · exact (he hsz).trans ((fmovStore_pair hsz hm).trans (storeTwo_raises.1 hr))
  · exact (he hsz).trans ((fmovStore_pair hsz hm).trans (storeTwo_raises.2 h8 h4 hr))

/-- A store that leaves its base. -/
theorem storesFloat_plain (he : exec i s = fmovStore ea m (fun t => t) s) :
    (s.fpSz = false → RunsStore .short i s ea 4 (s.frReg m).toNat [] fun _ => True) ∧
    (s.fpSz = true → s.pairOk m = true → s.Stores ea 8 → s.Stores ea 4 → s.Stores (ea + 4#64) 4 →
      Runs .short i s (s.bytesAt ea 4 ++ s.bytesAt (ea + 4#64) 4) fun t =>
        t.Holds ea 4 (if s.fpPr = true then (s.pair m).toNat else (s.pair m).toNat / 2 ^ 32) ∧
        t.Holds (ea + 4#64) 4 (if s.fpPr = true then (s.pair m).toNat / 2 ^ 32 else (s.pair m).toNat)) ∧
    (s.fpSz = true → s.pairOk m = true → s.accessOk .write ea 8 = false ∨ s.accessOk .write ea 4 = false →
      exec i s = raise (.addressError ea .write) s) ∧
    (s.fpSz = true → s.pairOk m = true → s.Stores ea 8 → s.Stores ea 4 → s.accessOk .write (ea + 4#64) 4 = false →
      exec i s = raise (.addressError (ea + 4#64) .write) s) := by
  obtain ⟨hpair, hraises⟩ := runs_fmovStore_pair changesBase_none fun _ => he
  exact ⟨fun hsz => runsStore_single changesBase_none (he.trans (fmovStore_single hsz)),
    fun hsz hm h8 h4 h4' => (hpair hsz hm h8 h4 h4').mono (List.Subset.refl _) fun _ ⟨hlow, hhigh, _⟩ => ⟨hlow, hhigh⟩,
    hraises⟩
end

theorem exec_fmovSFrmDecRn (m n : BitVec 4) (s : State) : exec (.fmovSFrmDecRn m n) s =
    fpuGuard s (fmovStore (s.reg (lo n) - s.fmovBytes) m
      (fun t => t.setReg (lo n) (s.reg (lo n) - s.fmovBytes)) s) := rfl

/-- The store to `@-Rn` by the bytes it moves. -/
theorem exec_fmovSFrmDecRn_of {s : State} {b : QWord} (hfpu : s.FpuPresent) (m n : BitVec 4) (h : s.fmovBytes = b) :
    exec (.fmovSFrmDecRn m n) s =
      fmovStore (s.reg (lo n) - b) m (fun t => t.setReg (lo n) (s.reg (lo n) - b)) s := by
  rw [exec_fmovSFrmDecRn, fpuGuard_next hfpu, h]

/-- Settles O56: each by its address and its decrement. -/
theorem floatStoresRun : Obligations.FloatStoresRun := fun _ hfpu =>
  ⟨fun _ _ => storesFloat_plain (fpuGuard_next hfpu), fun _ _ => storesFloat_plain (fpuGuard_next hfpu),
    fun m n => ⟨fun hsz => runsStore_single (changesBase_setReg (lo n) _)
        ((exec_fmovSFrmDecRn_of hfpu m n (fmovBytes_single hsz)).trans (fmovStore_single hsz)),
      runs_fmovStore_pair (changesBase_setReg (lo n) _) fun hsz =>
        exec_fmovSFrmDecRn_of hfpu m n (fmovBytes_pair hsz)⟩⟩

end Sys2Proof.Machine
end

section
/-!
Half precision (46_fpu.md R395, R397): LDHF16 repacks the fields of a half, and STHF16 rounds a Single's magnitude at
bit 13, which the rest of the pattern follows from.
-/
namespace Sys2Proof.Machine

/-! ## From a half -/

/-- `d` is the Single of the same sign and fraction as `h`, its exponent rebased. -/
def RepacksHalf (h : Word) (d : DWord) : Prop :=
  d.getLsbD 31 = h.getLsbD 15 ∧
  (d.extractLsb' 23 8).toNat = (h.extractLsb' 10 5).toNat + 112 ∧
  d.extractLsb' 13 10 = h.extractLsb' 0 10 ∧ d.extractLsb' 0 13 = 0#13

/-- The fields of four joined fields. -/
theorem append_fields (a : BitVec 1) (b : BitVec 8) (c : BitVec 10) (d : BitVec 13) :
    (a ++ b ++ c ++ d).getLsbD 31 = a.getLsbD 0 ∧ (a ++ b ++ c ++ d).extractLsb' 23 8 = b ∧
    (a ++ b ++ c ++ d).extractLsb' 13 10 = c ∧ (a ++ b ++ c ++ d).extractLsb' 0 13 = d := by
  refine ⟨?_, BitVec.eq_of_getLsbD_eq fun i hi => ?_, BitVec.eq_of_getLsbD_eq fun i hi => ?_,
    BitVec.eq_of_getLsbD_eq fun i hi => ?_⟩
  · rw [BitVec.getLsbD_append, BitVec.getLsbD_append, BitVec.getLsbD_append]
    rfl
  all_goals
    simp only [BitVec.getLsbD_append, BitVec.getLsbD_extractLsb']
    grind

theorem halfRepack_repacks (h : Word) : RepacksHalf h (halfRepack h) := by
  obtain ⟨hsign, hexp, hfrac, hlow⟩ := append_fields (h.extractLsb' 15 1)
    ((h.extractLsb' 10 5).setWidth 8 + 112#8) (h.extractLsb' 0 10) 0#13
  have hlt : (h.extractLsb' 10 5).toNat < 2 ^ 5 := BitVec.isLt _
  refine ⟨hsign.trans ?_, (congrArg BitVec.toNat hexp).trans ?_, hfrac, hlow⟩
  · simp
  · rw [BitVec.toNat_add, BitVec.toNat_setWidth_of_le (by decide)]
    exact Nat.mod_eq_of_lt (by simp only [BitVec.toNat_ofNat]; omega)

/-- The immediate form by the class of its half. -/
theorem halfImmediate_some {h : Word} (hexp : h.extractLsb' 10 5 ≠ 31#5)
    (hzero : h.extractLsb' 10 5 = 0#5 → h.extractLsb' 0 10 = 0#10) : halfImmediate h = some (halfRepack h) :=
  if_neg fun hn => hn.elim hexp fun hd => hd.2 (hzero hd.1)

theorem halfImmediate_none {h : Word}
    (hn : h.extractLsb' 10 5 = 31#5 ∨ (h.extractLsb' 10 5 = 0#5 ∧ h.extractLsb' 0 10 ≠ 0#10)) :
    halfImmediate h = none := if_pos hn

/-- The register form by the class of its half. -/
theorem halfRegister_special {h : Word} (hexp : h.extractLsb' 10 5 = 31#5) :
    halfRegister h = some (h.extractLsb' 15 1 ++ 0xFF#8 ++ h.extractLsb' 0 10 ++ 0#13) := if_pos hexp

theorem halfRegister_zero {h : Word} (hexp : h.extractLsb' 10 5 = 0#5) (hfrac : h.extractLsb' 0 10 = 0#10) :
    halfRegister h = some (h.extractLsb' 15 1 ++ 0#31) := by
  simp [halfRegister, hexp, hfrac]

theorem halfRegister_denormal {h : Word} (hexp : h.extractLsb' 10 5 = 0#5) (hfrac : h.extractLsb' 0 10 ≠ 0#10) :
    halfRegister h = none := by
  simp [halfRegister, hexp, hfrac]

theorem halfRegister_normal {h : Word} (h31 : h.extractLsb' 10 5 ≠ 31#5) (h0 : h.extractLsb' 10 5 ≠ 0#5) :
    halfRegister h = some (halfRepack h) := by
  simp [halfRegister, h31, h0]

section
variable {l : Len} {i : Instr} {s : State} {r : Option DWord}

/-- A defined half is written to FPUL. -/
theorem runs_fpulHalf {d : DWord} {P : DWord → Prop} (hr : r = some d) (hp : P d) (he : exec i s = fpulHalf r l s) :
    Runs l i s [.fpul] fun t => P t.fpul :=
  runs_writeFpul (by rw [he, hr, fpulHalf]) hp

/-- Where the half is undefined, FPUL takes a free value. -/
theorem runs_fpulHalf_free (hr : r = none) (he : exec i s = fpulHalf r l s) :
    Runs l i s [.fpul, .freeIndex] fun t =>
      t.fpul = lowDword (Config.freeValue s.freeIndex) ∧ t.freeIndex = s.freeIndex + 1 := by
  refine runs_next (u := { s.drawn with fpul := lowDword s.freeNow }) (by rw [he, hr, fpulHalf])
    ⟨State.retire_fpul _ _, State.retire_freeIndex _ _⟩
    (((keeps_drawn s).trans (keeps_fpul _ _)).mono (by simp)) rfl rfl
end

/-! ## To a half -/

/-- A sign above 15 bits. -/
theorem sign_append (b : Bool) (v : BitVec 15) :
    ((BitVec.ofBool b ++ v).extractLsb' 0 15).toNat = v.toNat ∧ (BitVec.ofBool b ++ v).msb = b := by
  constructor
  · congr 1
    refine BitVec.eq_of_getLsbD_eq fun i hi => ?_
    simp only [BitVec.getLsbD_append, BitVec.getLsbD_extractLsb']
    grind
  · rw [BitVec.msb_append]
    cases b <;> rfl

section
variable {sign up zeroSign : Bool} {mag : Nat}

/-- The half by the rounded magnitude `r`, in units of bit 13: an infinity, a number, or 0.0. -/
theorem halfPattern_inf (h : 143 * 2 ^ 10 ≤ mag / 2 ^ 13 + up.toNat) :
    halfPattern sign mag up zeroSign = BitVec.ofBool sign ++ 0x7C00#15 :=
  if_pos (by omega)

theorem halfPattern_zero (h : mag / 2 ^ 13 + up.toNat < 113 * 2 ^ 10) :
    halfPattern sign mag up zeroSign = BitVec.ofBool zeroSign ++ 0#15 :=
  (if_neg (by omega)).trans (if_pos (by omega))

theorem halfPattern_number (h1 : 113 * 2 ^ 10 ≤ mag / 2 ^ 13 + up.toNat)
    (h2 : mag / 2 ^ 13 + up.toNat < 143 * 2 ^ 10) :
    ((halfPattern sign mag up zeroSign).extractLsb' 0 15).toNat = mag / 2 ^ 13 + up.toNat - 112 * 2 ^ 10 ∧
      (halfPattern sign mag up zeroSign).msb = sign := by
  have he : halfPattern sign mag up zeroSign = BitVec.ofBool sign ++
      (BitVec.ofNat 5 (((mag / 2 ^ 13 + up.toNat) / 2 ^ 10 : Nat) - 112 : Int).toNat ++
        BitVec.ofNat 10 (mag / 2 ^ 13 + up.toNat)) :=
    (if_neg (by omega)).trans (if_neg (by omega))
  obtain ⟨hq, hs⟩ := sign_append sign
    (BitVec.ofNat 5 (((mag / 2 ^ 13 + up.toNat) / 2 ^ 10 : Nat) - 112 : Int).toNat ++
      BitVec.ofNat 10 (mag / 2 ^ 13 + up.toNat))
  rw [he, hq, hs, BitVec.toNat_append, ← Nat.shiftLeft_add_eq_or_of_lt (BitVec.isLt _), Nat.shiftLeft_eq,
    BitVec.toNat_ofNat, BitVec.toNat_ofNat]
  exact ⟨by omega, rfl⟩

/-- The bits of a half by its rounded magnitude; the infinity is the pattern after the largest number. -/
theorem halfPattern_bits :
    (113 * 2 ^ 10 ≤ mag / 2 ^ 13 + up.toNat → mag / 2 ^ 13 + up.toNat ≤ 143 * 2 ^ 10 →
      ((halfPattern sign mag up zeroSign).extractLsb' 0 15).toNat = mag / 2 ^ 13 + up.toNat - 112 * 2 ^ 10) ∧
    (143 * 2 ^ 10 ≤ mag / 2 ^ 13 + up.toNat →
      ((halfPattern sign mag up zeroSign).extractLsb' 0 15).toNat = 0x7C00) ∧
    (113 * 2 ^ 10 ≤ mag / 2 ^ 13 + up.toNat → (halfPattern sign mag up zeroSign).msb = sign) ∧
    (mag / 2 ^ 13 + up.toNat < 113 * 2 ^ 10 →
      ((halfPattern sign mag up zeroSign).extractLsb' 0 15).toNat = 0) := by
  obtain ⟨hinf, hsign⟩ := sign_append sign 0x7C00#15
  have htop (h : 143 * 2 ^ 10 ≤ mag / 2 ^ 13 + up.toNat) :
      ((halfPattern sign mag up zeroSign).extractLsb' 0 15).toNat = 0x7C00 := by
    rw [halfPattern_inf h]
    exact hinf
  refine ⟨fun h1 h2 => ?_, htop, fun h1 => ?_, fun h => ?_⟩
  · rcases Nat.lt_or_ge (mag / 2 ^ 13 + up.toNat) (143 * 2 ^ 10) with h | h
    · exact (halfPattern_number h1 h).1
    · rw [htop h]
      omega
  · rcases Nat.lt_or_ge (mag / 2 ^ 13 + up.toNat) (143 * 2 ^ 10) with h | h
    · exact (halfPattern_number h1 h).2
    · rw [halfPattern_inf h]
      exact hsign
  · rw [halfPattern_zero h]
    exact (sign_append zeroSign 0#15).1

/-- How far the rounded magnitude is from the magnitude: the bits lost, or what they lack to a whole unit. -/
theorem rounded_distance {u : Nat} (h : 112 * 2 ^ 10 ≤ mag / 2 ^ 13 + u) :
    (u = 0 → |((mag / 2 ^ 13 + u - 112 * 2 ^ 10 : Nat) : Int) * 2 ^ 13 - ((mag : Int) - 112 * 2 ^ 23)| =
      ((mag % 2 ^ 13 : Nat) : Int)) ∧
    (u = 1 → |((mag / 2 ^ 13 + u - 112 * 2 ^ 10 : Nat) : Int) * 2 ^ 13 - ((mag : Int) - 112 * 2 ^ 23)| =
      2 ^ 13 - ((mag % 2 ^ 13 : Nat) : Int)) := by
  refine ⟨fun hu => ?_, fun hu => ?_⟩
  · rw [abs_of_nonpos (by omega)]
    omega
  · rw [abs_of_nonneg (by omega)]
    omega

/-- The magnitude and the exponent of a Single. -/
theorem magnitude_toNat (f : DWord) : (f.extractLsb' 0 31).toNat = f.toNat % 2 ^ 31 := by
  rw [BitVec.extractLsb'_toNat, Nat.shiftRight_zero]

theorem exponent_toNat (f : DWord) : (f.extractLsb' 23 8).toNat = f.toNat % 2 ^ 31 / 2 ^ 23 := by
  rw [BitVec.extractLsb'_toNat, Nat.shiftRight_eq_div_pow]
  omega

/-- A magnitude rounded at bit 13 is the half of 46_fpu.md R397: up only when a bit is lost, and to nearest even where
`nearest`. -/
theorem packsHalf_halfPattern {f : DWord} {nearest : Bool} (hup : up = true → f.toNat % 2 ^ 31 % 2 ^ 13 ≠ 0)
    (hnear : nearest = true → zeroSign = false ∧ (up = true ↔ 2 ^ 12 < f.toNat % 2 ^ 31 % 2 ^ 13 ∨
      f.toNat % 2 ^ 31 % 2 ^ 13 = 2 ^ 12 ∧ f.toNat % 2 ^ 31 / 2 ^ 13 % 2 = 1)) :
    PacksHalf nearest f (halfPattern f.msb (f.toNat % 2 ^ 31) up zeroSign) := by
  obtain ⟨hnumber, hinf, hsign, hzero⟩ :=
    halfPattern_bits (sign := f.msb) (mag := f.toNat % 2 ^ 31) (up := up) (zeroSign := zeroSign)
  have hclear := halfPattern_zero (sign := f.msb) (mag := f.toNat % 2 ^ 31) (up := up) (zeroSign := zeroSign)
  have hle : up.toNat ≤ 1 := up.toNat_le
  rw [show up = true ↔ up.toNat = 1 from Bool.toNat_eq_one.symm] at hup hnear
  simp only [PacksHalf, magnitude_toNat, exponent_toNat]
  generalize f.toNat % 2 ^ 31 = mag at *
  refine ⟨fun he => ⟨hinf (by omega), hsign (by omega)⟩, fun he he' => ⟨hsign (by omega), ?_⟩, fun he => ?_,
    fun he => hzero (by omega), fun hn he => ?_⟩
  · obtain ⟨hdown, hupward⟩ := rounded_distance (mag := mag) (u := up.toNat) (by omega)
    rw [hnumber (by omega) (by omega)]
    refine ⟨by omega, fun hn => ?_⟩
    obtain ⟨-, hround⟩ := hnear hn
    omega
  · by_cases h : mag / 2 ^ 13 + up.toNat < 113 * 2 ^ 10
    · exact .inl (hzero h)
    · refine .inr ⟨?_, hsign (by omega), by omega⟩
      rw [hnumber (by omega) (by omega)]
      omega
  · obtain ⟨hpositive, hround⟩ := hnear hn
    by_cases h : mag / 2 ^ 13 + up.toNat < 113 * 2 ^ 10
    · rw [hzero h, hclear h, hpositive]
      exact ⟨by omega, fun _ => rfl⟩
    · rw [hnumber (by omega) (by omega)]
      omega
end

/-- STHF16's half, with any numerics for a Single that is no NaN and with the default for all. -/
theorem numToHalf_packs {num : FpNumerics} {rm : BitVec 2} {f : DWord}
    (h : fpDecode (fpFormat false) f.toNat ≠ .nan ∨ num = .ieee754) :
    PacksHalf (decide (num = .ieee754)) f (numToHalf num rm f) := by
  cases num with
  | ieee754 =>
    refine packsHalf_halfPattern (fun hu => ?_) fun _ => ⟨rfl, by simp⟩
    simp only [Bool.or_eq_true, Bool.and_eq_true, decide_eq_true_eq] at hu
    omega
  | other k =>
    have hnan : operandValue false (f.setWidth 64) ≠ .nan := by
      rw [operandValue, BitVec.toNat_setWidth_of_le (by decide)]
      exact h.resolve_right nofun
    rw [numToHalf, if_neg hnan]
    exact packsHalf_halfPattern (fun hu => by simpa using (Bool.and_eq_true_iff.1 hu).1) nofun

theorem zeroExt_half (h : Word) : (zeroExt h).toNat = h.toNat ∧ (zeroExt h).setWidth 16 = h :=
  ⟨BitVec.toNat_setWidth_of_le (by decide), by simp [zeroExt]⟩

/-- Settles O58: the classes of a half, and the rounding of STHF16. -/
theorem halfPrecisionRuns : Obligations.HalfPrecisionRuns := by
  intro s hfpu
  refine ⟨fun imm => ?_, fun m h hm => ?_, fun n => ?_⟩
  · have he (hslot : s.pending = none) : exec (.ldhf16Imm16Fpul imm) s = fpulHalf (halfImmediate imm) .long s :=
      (inForm_next (l := .long) fun _ => hslot).trans (fpuGuard_next hfpu)
    exact ⟨fun hexp hzero hslot => runs_fpulHalf (P := RepacksHalf imm) (halfImmediate_some hexp hzero)
        (halfRepack_repacks imm) (he hslot),
      fun hn hslot => runs_fpulHalf_free (halfImmediate_none hn) (he hslot)⟩
  · subst hm
    have he : exec (.ldhf16RmFpul m) s = fpulHalf (halfRegister (lowWord (s.reg (lo m)))) .short s :=
      fpuGuard_next hfpu
    refine ⟨fun hexp => ?_, fun hexp hfrac => ?_, fun hexp hfrac => ?_, fun h31 h0 => ?_⟩
    · exact runs_fpulHalf (P := fun d => d = _) (halfRegister_special hexp) rfl he
    · exact runs_fpulHalf (P := fun d => d = _) (halfRegister_zero hexp hfrac) rfl he
    · exact runs_fpulHalf_free (halfRegister_denormal hexp hfrac) he
    · exact runs_fpulHalf (P := RepacksHalf _) (halfRegister_normal h31 h0) (halfRepack_repacks _) he
  · obtain ⟨hnat, hcut⟩ := zeroExt_half (numToHalf s.launch.fpNumerics s.fpRm s.fpul)
    refine runs_writeReg (l := .short) (P := fun v => v.toNat = (numToHalf s.launch.fpNumerics s.fpRm s.fpul).toNat ∧
      (fpDecode (fpFormat false) s.fpul.toNat ≠ .nan ∨ s.launch.fpNumerics = .ieee754 →
        PacksHalf (decide (s.launch.fpNumerics = .ieee754)) s.fpul (v.setWidth 16)))
      (fpuGuard_next hfpu) nofun ⟨hnat, fun h => ?_⟩
    rw [hcut]
    exact numToHalf_packs h

end Sys2Proof.Machine
end
